-- ==== Sys2Proof/Word.lean ====
section
/-! DEFINITION. The word types of the machine: the 8-bit data bus and the 16-bit address bus (R7). -/

namespace Sys2Proof

/-- A u8: A, X, Y, S and every byte on the data bus (R7, R9). -/
abbrev Byte := BitVec 8

/-- A u16: PC and every address (R7, R9). -/
abbrev Word := BitVec 16

end Sys2Proof
end

