-- ==== Sys2Proof/Machine/Bits.lean ====
section
/-! DEFINITION. The bit-field, concatenation and extension helpers of the spec's notation (R9). -/

namespace Sys2Proof

/-- `lo(w) = w[7:0]` (R9). -/
def lo (w : Word) : Byte := w.setWidth 8

/-- `hi(w) = w[15:8]`, also the page of an address (R9, R14). -/
def hi (w : Word) : Byte := w.extractLsb' 8 8

/-- `{h, l}`, the u16 `h * 256 + l` (R9). -/
def cat (h l : Byte) : Word := h ++ l

/-- `sext_16(v)` (R9). -/
def sext (v : Byte) : Word := v.signExtend 16

/-- `{$00, z}`, an address of the zero page (R14, R103). -/
def zeroPage (z : Byte) : Word := cat 0x00 z

/-- `{$01, s}`, an address of the stack page (R24, R78). -/
def stackPage (s : Byte) : Word := cat 0x01 s

/-- `{hi(w), lo(w) +8 k}`: the address moved within its own page (R75, R138, R139). -/
def addInPage (w : Word) (k : Byte) : Word := cat (hi w) (lo w + k)

/-- Two addresses lie in different pages (R14, R142). -/
def pagesDiffer (a b : Word) : Bool := decide (hi a ≠ hi b)

/-- The byte `k` (0 the least significant) of a number: how instruction bytes are numbered in
`opcode_table.json`. -/
def byteOfNat (w k : Nat) : Byte := BitVec.ofNat 8 (w >>> (8 * k))

end Sys2Proof
end

