-- ==== Sys2Proof/Config.lean ====
section
/-! DEFINITION. What an implementation fixes: the parameters of R8 and the values the spec leaves free. -/

namespace Sys2Proof

/-- The two register windows whose owners are outside the block (R62, R64, R65, R417). -/
inductive Window where
  | ppu
  | apuIo
deriving DecidableEq, Repr

/-- `ANE_MAGIC`: the constant opcode $8B ORs into A; it differs between chips (R8, R363, D15).
No body, so no proof can use a value of it (log entry 4). -/
opaque Config.aneMagic : Byte

/-- `LXA_MAGIC`: the constant opcode $AB ORs into A; it differs between chips (R8, R364, D15).
No body, so no proof can use a value of it (log entry 5). -/
opaque Config.lxaMagic : Byte

/-- What the read hook of a window answers for a register index and the bus latch, at the `n`-th hook
read of the history: any u8 (R71). Used only where the environment's script in the state gives no
answer (log entry 6). -/
opaque Config.hookRead (w : Window) (register : Nat) (latch : Byte) (n : Nat) : Byte

/-- `PRG_ROM_SIZE` (R8, R68): 16384 or 32768 bytes. -/
inductive PrgRomSize where
  | k16
  | k32
deriving DecidableEq, Repr

/-- `PRG_RAM_SIZE` (R8, R67): 0 (absent), 2048, 4096 or 8192 bytes. -/
inductive PrgRamSize where
  | absent
  | k2
  | k4
  | k8
deriving DecidableEq, Repr

/-- The cartridge as the loader declares it before the first access (R72, R452).
The contents are byte arrays given by their nonzero bytes, (offset, value) (log entry 12). -/
structure Cartridge where
  /-- `none` where no PRG-ROM is present. -/
  prgRomSize : Option Nat
  prgRom     : List (Nat × Byte)
  prgRamSize : Nat
  /-- `PRG_RAM_INIT` (R8, R67). -/
  prgRamInit : List (Nat × Byte)
  /-- Whether the PPU hook pair is registered (R71, R72). -/
  ppuHook    : Bool
  /-- Whether the APU/IO hook pair is registered (R71, R72). -/
  apuIoHook  : Bool
deriving DecidableEq, Repr

/-- The power-up parameters of R8: `POWERUP_A`, `POWERUP_X`, `POWERUP_Y`, `POWERUP_FLAGS`
(C, Z, D, V, N) and `RAM_INIT`, the last given by its nonzero bytes, (offset, value). -/
structure PowerUp where
  a : Byte
  x : Byte
  y : Byte
  c : Bool
  z : Bool
  d : Bool
  v : Bool
  n : Bool
  ramInit : List (Nat × Byte)
deriving DecidableEq, Repr

end Sys2Proof
end

