-- ==== Sys2Proof/Syntax.lean ====
section
/-! DEFINITION. The instructions as syntax: mnemonics, addressing modes, operands, and `Instr` with one
constructor per row of the opcode map (R106). -/

namespace Sys2Proof

/-- The 77 mnemonics of the opcode map (R106, R107): 56 documented, 21 undocumented. -/
inductive Mnemonic where
  | ADC | ALR | ANC | AND | ANE | ARR | ASL | BCC
  | BCS | BEQ | BIT | BMI | BNE | BPL | BRK | BVC
  | BVS | CLC | CLD | CLI | CLV | CMP | CPX | CPY
  | DCP | DEC | DEX | DEY | EOR | INC | INX | INY
  | ISC | JAM | JMP | JSR | LAS | LAX | LDA | LDX
  | LDY | LSR | LXA | NOP | ORA | PHA | PHP | PLA
  | PLP | RLA | ROL | ROR | RRA | RTI | RTS | SAX
  | SBC | SBX | SEC | SED | SEI | SHA | SHX | SHY
  | SLO | SRE | STA | STX | STY | TAS | TAX | TAY
  | TSX | TXA | TXS | TYA | USBC
deriving DecidableEq, Repr

/-- The 13 instruction formats, one per addressing mode (R101). -/
inductive Format where
  | implied | accumulator | immediate | zeropage | zeropageX | zeropageY | absolute | absoluteX | absoluteY
  | absoluteIndirect | indexedIndirectX | indirectIndexedY | relative
deriving DecidableEq, Repr

/-- The access classes (R130). -/
inductive AccessClass where
  | read | write | readModifyWrite | accumulator | implied | branch | jump | stackControl | jam
deriving DecidableEq, Repr

/-- The operand of a mode that has an effective address in memory (R134 to R139). -/
inductive MemOperand where
  /-- Zero page (R134). -/
  | zp (z : Byte)
  /-- Zero page,X (R135). -/
  | zpX (z : Byte)
  /-- Zero page,Y (R135). -/
  | zpY (z : Byte)
  /-- Absolute (R136). -/
  | abs (addr : Word)
  /-- Absolute,X (R139). -/
  | absX (addr : Word)
  /-- Absolute,Y (R139). -/
  | absY (addr : Word)
  /-- Indexed indirect (zp,X) (R137). -/
  | indX (z : Byte)
  /-- Indirect indexed (zp),Y (R138). -/
  | indY (z : Byte)
deriving DecidableEq, Repr

/-- The operand of an instruction as its bytes give it (R101, R103). -/
inductive Operand where
  /-- No operand byte (R131). -/
  | implied
  /-- The accumulator (R132). -/
  | accumulator
  /-- `imm8` (R133). -/
  | immediate (imm : Byte)
  /-- An operand in memory. -/
  | mem (m : MemOperand)
  /-- The target of JMP absolute (R309). -/
  | target (addr : Word)
  /-- The low byte of JSR's target: the high byte is read at PC only after the pushes (R310), so it is
  no part of the decoded instruction (log entry 10). -/
  | targetLow (l : Byte)
  /-- The pointer of JMP indirect (R140). -/
  | pointer (ptr : Word)
  /-- `off8` of a branch (R141). -/
  | offset (off : Byte)
deriving DecidableEq, Repr

/-- An instruction: one constructor per row of the opcode map (R106), with the operand
bytes that are fetched before it executes. The rows with operand bytes come first, those without last,
each in opcode order. -/
inductive Instr where
  /-- $01 ORA (zp,X) (R233). -/
  | oraIndX (z : Byte)
  /-- $03 SLO (zp,X) (R330). -/
  | sloIndX (z : Byte)
  /-- $04 NOP zp (R374). -/
  | nopZp04 (z : Byte)
  /-- $05 ORA zp (R233). -/
  | oraZp (z : Byte)
  /-- $06 ASL zp (R245). -/
  | aslZp (z : Byte)
  /-- $07 SLO zp (R330). -/
  | sloZp (z : Byte)
  /-- $09 ORA # (R233). -/
  | oraImm (imm : Byte)
  /-- $0B ANC # (R360). -/
  | ancImm0B (imm : Byte)
  /-- $0C NOP abs (R374). -/
  | nopAbs0C (addr : Word)
  /-- $0D ORA abs (R233). -/
  | oraAbs (addr : Word)
  /-- $0E ASL abs (R245). -/
  | aslAbs (addr : Word)
  /-- $0F SLO abs (R330). -/
  | sloAbs (addr : Word)
  /-- $10 BPL rel (R301). -/
  | bpl (off : Byte)
  /-- $11 ORA (zp),Y (R233). -/
  | oraIndY (z : Byte)
  /-- $13 SLO (zp),Y (R330). -/
  | sloIndY (z : Byte)
  /-- $14 NOP zp,X (R374). -/
  | nopZpX14 (z : Byte)
  /-- $15 ORA zp,X (R233). -/
  | oraZpX (z : Byte)
  /-- $16 ASL zp,X (R245). -/
  | aslZpX (z : Byte)
  /-- $17 SLO zp,X (R330). -/
  | sloZpX (z : Byte)
  /-- $19 ORA abs,Y (R233). -/
  | oraAbsY (addr : Word)
  /-- $1B SLO abs,Y (R330). -/
  | sloAbsY (addr : Word)
  /-- $1C NOP abs,X (R374). -/
  | nopAbsX1C (addr : Word)
  /-- $1D ORA abs,X (R233). -/
  | oraAbsX (addr : Word)
  /-- $1E ASL abs,X (R245). -/
  | aslAbsX (addr : Word)
  /-- $1F SLO abs,X (R330). -/
  | sloAbsX (addr : Word)
  /-- $20 JSR abs (R310). -/
  | jsr (l : Byte)
  /-- $21 AND (zp,X) (R232). -/
  | andIndX (z : Byte)
  /-- $23 RLA (zp,X) (R331). -/
  | rlaIndX (z : Byte)
  /-- $24 BIT zp (R238). -/
  | bitZp (z : Byte)
  /-- $25 AND zp (R232). -/
  | andZp (z : Byte)
  /-- $26 ROL zp (R247). -/
  | rolZp (z : Byte)
  /-- $27 RLA zp (R331). -/
  | rlaZp (z : Byte)
  /-- $29 AND # (R232). -/
  | andImm (imm : Byte)
  /-- $2B ANC # (R360). -/
  | ancImm2B (imm : Byte)
  /-- $2C BIT abs (R238). -/
  | bitAbs (addr : Word)
  /-- $2D AND abs (R232). -/
  | andAbs (addr : Word)
  /-- $2E ROL abs (R247). -/
  | rolAbs (addr : Word)
  /-- $2F RLA abs (R331). -/
  | rlaAbs (addr : Word)
  /-- $30 BMI rel (R302). -/
  | bmi (off : Byte)
  /-- $31 AND (zp),Y (R232). -/
  | andIndY (z : Byte)
  /-- $33 RLA (zp),Y (R331). -/
  | rlaIndY (z : Byte)
  /-- $34 NOP zp,X (R374). -/
  | nopZpX34 (z : Byte)
  /-- $35 AND zp,X (R232). -/
  | andZpX (z : Byte)
  /-- $36 ROL zp,X (R247). -/
  | rolZpX (z : Byte)
  /-- $37 RLA zp,X (R331). -/
  | rlaZpX (z : Byte)
  /-- $39 AND abs,Y (R232). -/
  | andAbsY (addr : Word)
  /-- $3B RLA abs,Y (R331). -/
  | rlaAbsY (addr : Word)
  /-- $3C NOP abs,X (R374). -/
  | nopAbsX3C (addr : Word)
  /-- $3D AND abs,X (R232). -/
  | andAbsX (addr : Word)
  /-- $3E ROL abs,X (R247). -/
  | rolAbsX (addr : Word)
  /-- $3F RLA abs,X (R331). -/
  | rlaAbsX (addr : Word)
  /-- $41 EOR (zp,X) (R234). -/
  | eorIndX (z : Byte)
  /-- $43 SRE (zp,X) (R332). -/
  | sreIndX (z : Byte)
  /-- $44 NOP zp (R374). -/
  | nopZp44 (z : Byte)
  /-- $45 EOR zp (R234). -/
  | eorZp (z : Byte)
  /-- $46 LSR zp (R246). -/
  | lsrZp (z : Byte)
  /-- $47 SRE zp (R332). -/
  | sreZp (z : Byte)
  /-- $49 EOR # (R234). -/
  | eorImm (imm : Byte)
  /-- $4B ALR # (R361). -/
  | alrImm (imm : Byte)
  /-- $4C JMP abs (R309). -/
  | jmpAbs (addr : Word)
  /-- $4D EOR abs (R234). -/
  | eorAbs (addr : Word)
  /-- $4E LSR abs (R246). -/
  | lsrAbs (addr : Word)
  /-- $4F SRE abs (R332). -/
  | sreAbs (addr : Word)
  /-- $50 BVC rel (R303). -/
  | bvc (off : Byte)
  /-- $51 EOR (zp),Y (R234). -/
  | eorIndY (z : Byte)
  /-- $53 SRE (zp),Y (R332). -/
  | sreIndY (z : Byte)
  /-- $54 NOP zp,X (R374). -/
  | nopZpX54 (z : Byte)
  /-- $55 EOR zp,X (R234). -/
  | eorZpX (z : Byte)
  /-- $56 LSR zp,X (R246). -/
  | lsrZpX (z : Byte)
  /-- $57 SRE zp,X (R332). -/
  | sreZpX (z : Byte)
  /-- $59 EOR abs,Y (R234). -/
  | eorAbsY (addr : Word)
  /-- $5B SRE abs,Y (R332). -/
  | sreAbsY (addr : Word)
  /-- $5C NOP abs,X (R374). -/
  | nopAbsX5C (addr : Word)
  /-- $5D EOR abs,X (R234). -/
  | eorAbsX (addr : Word)
  /-- $5E LSR abs,X (R246). -/
  | lsrAbsX (addr : Word)
  /-- $5F SRE abs,X (R332). -/
  | sreAbsX (addr : Word)
  /-- $61 ADC (zp,X) (R230). -/
  | adcIndX (z : Byte)
  /-- $63 RRA (zp,X) (R333). -/
  | rraIndX (z : Byte)
  /-- $64 NOP zp (R374). -/
  | nopZp64 (z : Byte)
  /-- $65 ADC zp (R230). -/
  | adcZp (z : Byte)
  /-- $66 ROR zp (R248). -/
  | rorZp (z : Byte)
  /-- $67 RRA zp (R333). -/
  | rraZp (z : Byte)
  /-- $69 ADC # (R230). -/
  | adcImm (imm : Byte)
  /-- $6B ARR # (R362). -/
  | arrImm (imm : Byte)
  /-- $6C JMP (abs) (R309). -/
  | jmpInd (ptr : Word)
  /-- $6D ADC abs (R230). -/
  | adcAbs (addr : Word)
  /-- $6E ROR abs (R248). -/
  | rorAbs (addr : Word)
  /-- $6F RRA abs (R333). -/
  | rraAbs (addr : Word)
  /-- $70 BVS rel (R304). -/
  | bvs (off : Byte)
  /-- $71 ADC (zp),Y (R230). -/
  | adcIndY (z : Byte)
  /-- $73 RRA (zp),Y (R333). -/
  | rraIndY (z : Byte)
  /-- $74 NOP zp,X (R374). -/
  | nopZpX74 (z : Byte)
  /-- $75 ADC zp,X (R230). -/
  | adcZpX (z : Byte)
  /-- $76 ROR zp,X (R248). -/
  | rorZpX (z : Byte)
  /-- $77 RRA zp,X (R333). -/
  | rraZpX (z : Byte)
  /-- $79 ADC abs,Y (R230). -/
  | adcAbsY (addr : Word)
  /-- $7B RRA abs,Y (R333). -/
  | rraAbsY (addr : Word)
  /-- $7C NOP abs,X (R374). -/
  | nopAbsX7C (addr : Word)
  /-- $7D ADC abs,X (R230). -/
  | adcAbsX (addr : Word)
  /-- $7E ROR abs,X (R248). -/
  | rorAbsX (addr : Word)
  /-- $7F RRA abs,X (R333). -/
  | rraAbsX (addr : Word)
  /-- $80 NOP # (R374). -/
  | nopImm80 (imm : Byte)
  /-- $81 STA (zp,X) (R203). -/
  | staIndX (z : Byte)
  /-- $82 NOP # (R374). -/
  | nopImm82 (imm : Byte)
  /-- $83 SAX (zp,X) (R334). -/
  | saxIndX (z : Byte)
  /-- $84 STY zp (R205). -/
  | styZp (z : Byte)
  /-- $85 STA zp (R203). -/
  | staZp (z : Byte)
  /-- $86 STX zp (R204). -/
  | stxZp (z : Byte)
  /-- $87 SAX zp (R334). -/
  | saxZp (z : Byte)
  /-- $89 NOP # (R374). -/
  | nopImm89 (imm : Byte)
  /-- $8B ANE # (R363). -/
  | aneImm (imm : Byte)
  /-- $8C STY abs (R205). -/
  | styAbs (addr : Word)
  /-- $8D STA abs (R203). -/
  | staAbs (addr : Word)
  /-- $8E STX abs (R204). -/
  | stxAbs (addr : Word)
  /-- $8F SAX abs (R334). -/
  | saxAbs (addr : Word)
  /-- $90 BCC rel (R305). -/
  | bcc (off : Byte)
  /-- $91 STA (zp),Y (R203). -/
  | staIndY (z : Byte)
  /-- $93 SHA (zp),Y (R368). -/
  | shaIndY (z : Byte)
  /-- $94 STY zp,X (R205). -/
  | styZpX (z : Byte)
  /-- $95 STA zp,X (R203). -/
  | staZpX (z : Byte)
  /-- $96 STX zp,Y (R204). -/
  | stxZpY (z : Byte)
  /-- $97 SAX zp,Y (R334). -/
  | saxZpY (z : Byte)
  /-- $99 STA abs,Y (R203). -/
  | staAbsY (addr : Word)
  /-- $9B TAS abs,Y (R371). -/
  | tasAbsY (addr : Word)
  /-- $9C SHY abs,X (R370). -/
  | shyAbsX (addr : Word)
  /-- $9D STA abs,X (R203). -/
  | staAbsX (addr : Word)
  /-- $9E SHX abs,Y (R369). -/
  | shxAbsY (addr : Word)
  /-- $9F SHA abs,Y (R368). -/
  | shaAbsY (addr : Word)
  /-- $A0 LDY # (R202). -/
  | ldyImm (imm : Byte)
  /-- $A1 LDA (zp,X) (R200). -/
  | ldaIndX (z : Byte)
  /-- $A2 LDX # (R201). -/
  | ldxImm (imm : Byte)
  /-- $A3 LAX (zp,X) (R335). -/
  | laxIndX (z : Byte)
  /-- $A4 LDY zp (R202). -/
  | ldyZp (z : Byte)
  /-- $A5 LDA zp (R200). -/
  | ldaZp (z : Byte)
  /-- $A6 LDX zp (R201). -/
  | ldxZp (z : Byte)
  /-- $A7 LAX zp (R335). -/
  | laxZp (z : Byte)
  /-- $A9 LDA # (R200). -/
  | ldaImm (imm : Byte)
  /-- $AB LXA # (R364). -/
  | lxaImm (imm : Byte)
  /-- $AC LDY abs (R202). -/
  | ldyAbs (addr : Word)
  /-- $AD LDA abs (R200). -/
  | ldaAbs (addr : Word)
  /-- $AE LDX abs (R201). -/
  | ldxAbs (addr : Word)
  /-- $AF LAX abs (R335). -/
  | laxAbs (addr : Word)
  /-- $B0 BCS rel (R306). -/
  | bcs (off : Byte)
  /-- $B1 LDA (zp),Y (R200). -/
  | ldaIndY (z : Byte)
  /-- $B3 LAX (zp),Y (R335). -/
  | laxIndY (z : Byte)
  /-- $B4 LDY zp,X (R202). -/
  | ldyZpX (z : Byte)
  /-- $B5 LDA zp,X (R200). -/
  | ldaZpX (z : Byte)
  /-- $B6 LDX zp,Y (R201). -/
  | ldxZpY (z : Byte)
  /-- $B7 LAX zp,Y (R335). -/
  | laxZpY (z : Byte)
  /-- $B9 LDA abs,Y (R200). -/
  | ldaAbsY (addr : Word)
  /-- $BB LAS abs,Y (R372). -/
  | lasAbsY (addr : Word)
  /-- $BC LDY abs,X (R202). -/
  | ldyAbsX (addr : Word)
  /-- $BD LDA abs,X (R200). -/
  | ldaAbsX (addr : Word)
  /-- $BE LDX abs,Y (R201). -/
  | ldxAbsY (addr : Word)
  /-- $BF LAX abs,Y (R335). -/
  | laxAbsY (addr : Word)
  /-- $C0 CPY # (R237). -/
  | cpyImm (imm : Byte)
  /-- $C1 CMP (zp,X) (R235). -/
  | cmpIndX (z : Byte)
  /-- $C2 NOP # (R374). -/
  | nopImmC2 (imm : Byte)
  /-- $C3 DCP (zp,X) (R336). -/
  | dcpIndX (z : Byte)
  /-- $C4 CPY zp (R237). -/
  | cpyZp (z : Byte)
  /-- $C5 CMP zp (R235). -/
  | cmpZp (z : Byte)
  /-- $C6 DEC zp (R240). -/
  | decZp (z : Byte)
  /-- $C7 DCP zp (R336). -/
  | dcpZp (z : Byte)
  /-- $C9 CMP # (R235). -/
  | cmpImm (imm : Byte)
  /-- $CB SBX # (R365). -/
  | sbxImm (imm : Byte)
  /-- $CC CPY abs (R237). -/
  | cpyAbs (addr : Word)
  /-- $CD CMP abs (R235). -/
  | cmpAbs (addr : Word)
  /-- $CE DEC abs (R240). -/
  | decAbs (addr : Word)
  /-- $CF DCP abs (R336). -/
  | dcpAbs (addr : Word)
  /-- $D0 BNE rel (R307). -/
  | bne (off : Byte)
  /-- $D1 CMP (zp),Y (R235). -/
  | cmpIndY (z : Byte)
  /-- $D3 DCP (zp),Y (R336). -/
  | dcpIndY (z : Byte)
  /-- $D4 NOP zp,X (R374). -/
  | nopZpXD4 (z : Byte)
  /-- $D5 CMP zp,X (R235). -/
  | cmpZpX (z : Byte)
  /-- $D6 DEC zp,X (R240). -/
  | decZpX (z : Byte)
  /-- $D7 DCP zp,X (R336). -/
  | dcpZpX (z : Byte)
  /-- $D9 CMP abs,Y (R235). -/
  | cmpAbsY (addr : Word)
  /-- $DB DCP abs,Y (R336). -/
  | dcpAbsY (addr : Word)
  /-- $DC NOP abs,X (R374). -/
  | nopAbsXDC (addr : Word)
  /-- $DD CMP abs,X (R235). -/
  | cmpAbsX (addr : Word)
  /-- $DE DEC abs,X (R240). -/
  | decAbsX (addr : Word)
  /-- $DF DCP abs,X (R336). -/
  | dcpAbsX (addr : Word)
  /-- $E0 CPX # (R236). -/
  | cpxImm (imm : Byte)
  /-- $E1 SBC (zp,X) (R231). -/
  | sbcIndX (z : Byte)
  /-- $E2 NOP # (R374). -/
  | nopImmE2 (imm : Byte)
  /-- $E3 ISC (zp,X) (R337). -/
  | iscIndX (z : Byte)
  /-- $E4 CPX zp (R236). -/
  | cpxZp (z : Byte)
  /-- $E5 SBC zp (R231). -/
  | sbcZp (z : Byte)
  /-- $E6 INC zp (R239). -/
  | incZp (z : Byte)
  /-- $E7 ISC zp (R337). -/
  | iscZp (z : Byte)
  /-- $E9 SBC # (R231). -/
  | sbcImm (imm : Byte)
  /-- $EB USBC # (R366). -/
  | usbcImm (imm : Byte)
  /-- $EC CPX abs (R236). -/
  | cpxAbs (addr : Word)
  /-- $ED SBC abs (R231). -/
  | sbcAbs (addr : Word)
  /-- $EE INC abs (R239). -/
  | incAbs (addr : Word)
  /-- $EF ISC abs (R337). -/
  | iscAbs (addr : Word)
  /-- $F0 BEQ rel (R308). -/
  | beq (off : Byte)
  /-- $F1 SBC (zp),Y (R231). -/
  | sbcIndY (z : Byte)
  /-- $F3 ISC (zp),Y (R337). -/
  | iscIndY (z : Byte)
  /-- $F4 NOP zp,X (R374). -/
  | nopZpXF4 (z : Byte)
  /-- $F5 SBC zp,X (R231). -/
  | sbcZpX (z : Byte)
  /-- $F6 INC zp,X (R239). -/
  | incZpX (z : Byte)
  /-- $F7 ISC zp,X (R337). -/
  | iscZpX (z : Byte)
  /-- $F9 SBC abs,Y (R231). -/
  | sbcAbsY (addr : Word)
  /-- $FB ISC abs,Y (R337). -/
  | iscAbsY (addr : Word)
  /-- $FC NOP abs,X (R374). -/
  | nopAbsXFC (addr : Word)
  /-- $FD SBC abs,X (R231). -/
  | sbcAbsX (addr : Word)
  /-- $FE INC abs,X (R239). -/
  | incAbsX (addr : Word)
  /-- $FF ISC abs,X (R337). -/
  | iscAbsX (addr : Word)
  /-- $00 BRK (R312). -/
  | brk
  /-- $02 JAM (R375). -/
  | jam02
  /-- $08 PHP (R271). -/
  | php
  /-- $0A ASL A (R245). -/
  | aslA
  /-- $12 JAM (R375). -/
  | jam12
  /-- $18 CLC (R274). -/
  | clc
  /-- $1A NOP (R373). -/
  | nop1A
  /-- $22 JAM (R375). -/
  | jam22
  /-- $28 PLP (R273). -/
  | plp
  /-- $2A ROL A (R247). -/
  | rolA
  /-- $32 JAM (R375). -/
  | jam32
  /-- $38 SEC (R275). -/
  | sec
  /-- $3A NOP (R373). -/
  | nop3A
  /-- $40 RTI (R313). -/
  | rti
  /-- $42 JAM (R375). -/
  | jam42
  /-- $48 PHA (R270). -/
  | pha
  /-- $4A LSR A (R246). -/
  | lsrA
  /-- $52 JAM (R375). -/
  | jam52
  /-- $58 CLI (R276). -/
  | cli
  /-- $5A NOP (R373). -/
  | nop5A
  /-- $60 RTS (R311). -/
  | rts
  /-- $62 JAM (R375). -/
  | jam62
  /-- $68 PLA (R272). -/
  | pla
  /-- $6A ROR A (R248). -/
  | rorA
  /-- $72 JAM (R375). -/
  | jam72
  /-- $78 SEI (R277). -/
  | sei
  /-- $7A NOP (R373). -/
  | nop7A
  /-- $88 DEY (R244). -/
  | dey
  /-- $8A TXA (R208). -/
  | txa
  /-- $92 JAM (R375). -/
  | jam92
  /-- $98 TYA (R209). -/
  | tya
  /-- $9A TXS (R211). -/
  | txs
  /-- $A8 TAY (R207). -/
  | tay
  /-- $AA TAX (R206). -/
  | tax
  /-- $B2 JAM (R375). -/
  | jamB2
  /-- $B8 CLV (R280). -/
  | clv
  /-- $BA TSX (R210). -/
  | tsx
  /-- $C8 INY (R242). -/
  | iny
  /-- $CA DEX (R243). -/
  | dex
  /-- $D2 JAM (R375). -/
  | jamD2
  /-- $D8 CLD (R278). -/
  | cld
  /-- $DA NOP (R373). -/
  | nopDA
  /-- $E8 INX (R241). -/
  | inx
  /-- $EA NOP (R281). -/
  | nop
  /-- $F2 JAM (R375). -/
  | jamF2
  /-- $F8 SED (R279). -/
  | sed
  /-- $FA NOP (R373). -/
  | nopFA
deriving DecidableEq, Repr

end Sys2Proof
end

