-- ==== Sys2Proof/WellFormed.lean ====
section
/-! DEFINITION. Which instructions and which cartridge configurations are admitted. -/

namespace Sys2Proof

/-- Every term of `Instr` is an instruction of the hardware: the constructors are the 256 rows of the
opcode map (R106, R108) and an operand field is a u8 or a u16 of which R103 admits every value. So
there is no check, and nothing a check could refuse. -/
abbrev Instr.WellFormed (_ : Instr) : Prop := True

/-- The checks of R72 one by one, in the order the rule lists them. -/
inductive CartridgeFlaw where
  /-- No PRG-ROM is present. -/
  | prgRomAbsent
  /-- `PRG_ROM_SIZE` is neither 16384 nor 32768. -/
  | prgRomSize
  /-- `PRG_RAM_SIZE` is none of 0, 2048, 4096, 8192. -/
  | prgRamSize
  /-- No PPU hook pair is registered. -/
  | ppuHookMissing
  /-- No APU/IO hook pair is registered. -/
  | apuIoHookMissing
  /-- A byte of the PRG-ROM image lies at or past its size. -/
  | prgRomOffset
  /-- A byte of the PRG-RAM image lies at or past its size. -/
  | prgRamOffset
deriving DecidableEq, Repr

/-- The flaws of a declared cartridge (R72); none means the configuration is valid. -/
def Cartridge.flaws (c : Cartridge) : List CartridgeFlaw :=
  (if c.prgRomSize = none then [.prgRomAbsent] else [])
  ++ (if c.prgRomSize = none ∨ c.prgRomSize = some 16384 ∨ c.prgRomSize = some 32768 then [] else [.prgRomSize])
  ++ (if c.prgRamSize ∈ [0, 2048, 4096, 8192] then [] else [.prgRamSize])
  ++ (if c.ppuHook then [] else [.ppuHookMissing])
  ++ (if c.apuIoHook then [] else [.apuIoHookMissing])
  ++ (if c.prgRom.all (fun b => decide (b.1 < c.prgRomSize.getD b.1.succ)) then [] else [.prgRomOffset])
  ++ (if c.prgRamInit.all (fun b => decide (b.1 < c.prgRamSize)) then [] else [.prgRamOffset])

/-- The configuration check of R72. -/
def Cartridge.wellFormed (c : Cartridge) : Bool := c.flaws.isEmpty

end Sys2Proof
end

