-- ==== Sys2Proof/Decode.lean ====
section
/-! DEFINITION. The opcode table, the decoder from bytes, and the encoder. -/

namespace Sys2Proof

/-! ## Views of an instruction -/

/-- The mnemonic of each row (R106). -/
def Instr.mnemonic : Instr → Mnemonic
  | .brk => .BRK
  | .oraIndX _ => .ORA
  | .jam02 => .JAM
  | .sloIndX _ => .SLO
  | .nopZp04 _ => .NOP
  | .oraZp _ => .ORA
  | .aslZp _ => .ASL
  | .sloZp _ => .SLO
  | .php => .PHP
  | .oraImm _ => .ORA
  | .aslA => .ASL
  | .ancImm0B _ => .ANC
  | .nopAbs0C _ => .NOP
  | .oraAbs _ => .ORA
  | .aslAbs _ => .ASL
  | .sloAbs _ => .SLO
  | .bpl _ => .BPL
  | .oraIndY _ => .ORA
  | .jam12 => .JAM
  | .sloIndY _ => .SLO
  | .nopZpX14 _ => .NOP
  | .oraZpX _ => .ORA
  | .aslZpX _ => .ASL
  | .sloZpX _ => .SLO
  | .clc => .CLC
  | .oraAbsY _ => .ORA
  | .nop1A => .NOP
  | .sloAbsY _ => .SLO
  | .nopAbsX1C _ => .NOP
  | .oraAbsX _ => .ORA
  | .aslAbsX _ => .ASL
  | .sloAbsX _ => .SLO
  | .jsr _ => .JSR
  | .andIndX _ => .AND
  | .jam22 => .JAM
  | .rlaIndX _ => .RLA
  | .bitZp _ => .BIT
  | .andZp _ => .AND
  | .rolZp _ => .ROL
  | .rlaZp _ => .RLA
  | .plp => .PLP
  | .andImm _ => .AND
  | .rolA => .ROL
  | .ancImm2B _ => .ANC
  | .bitAbs _ => .BIT
  | .andAbs _ => .AND
  | .rolAbs _ => .ROL
  | .rlaAbs _ => .RLA
  | .bmi _ => .BMI
  | .andIndY _ => .AND
  | .jam32 => .JAM
  | .rlaIndY _ => .RLA
  | .nopZpX34 _ => .NOP
  | .andZpX _ => .AND
  | .rolZpX _ => .ROL
  | .rlaZpX _ => .RLA
  | .sec => .SEC
  | .andAbsY _ => .AND
  | .nop3A => .NOP
  | .rlaAbsY _ => .RLA
  | .nopAbsX3C _ => .NOP
  | .andAbsX _ => .AND
  | .rolAbsX _ => .ROL
  | .rlaAbsX _ => .RLA
  | .rti => .RTI
  | .eorIndX _ => .EOR
  | .jam42 => .JAM
  | .sreIndX _ => .SRE
  | .nopZp44 _ => .NOP
  | .eorZp _ => .EOR
  | .lsrZp _ => .LSR
  | .sreZp _ => .SRE
  | .pha => .PHA
  | .eorImm _ => .EOR
  | .lsrA => .LSR
  | .alrImm _ => .ALR
  | .jmpAbs _ => .JMP
  | .eorAbs _ => .EOR
  | .lsrAbs _ => .LSR
  | .sreAbs _ => .SRE
  | .bvc _ => .BVC
  | .eorIndY _ => .EOR
  | .jam52 => .JAM
  | .sreIndY _ => .SRE
  | .nopZpX54 _ => .NOP
  | .eorZpX _ => .EOR
  | .lsrZpX _ => .LSR
  | .sreZpX _ => .SRE
  | .cli => .CLI
  | .eorAbsY _ => .EOR
  | .nop5A => .NOP
  | .sreAbsY _ => .SRE
  | .nopAbsX5C _ => .NOP
  | .eorAbsX _ => .EOR
  | .lsrAbsX _ => .LSR
  | .sreAbsX _ => .SRE
  | .rts => .RTS
  | .adcIndX _ => .ADC
  | .jam62 => .JAM
  | .rraIndX _ => .RRA
  | .nopZp64 _ => .NOP
  | .adcZp _ => .ADC
  | .rorZp _ => .ROR
  | .rraZp _ => .RRA
  | .pla => .PLA
  | .adcImm _ => .ADC
  | .rorA => .ROR
  | .arrImm _ => .ARR
  | .jmpInd _ => .JMP
  | .adcAbs _ => .ADC
  | .rorAbs _ => .ROR
  | .rraAbs _ => .RRA
  | .bvs _ => .BVS
  | .adcIndY _ => .ADC
  | .jam72 => .JAM
  | .rraIndY _ => .RRA
  | .nopZpX74 _ => .NOP
  | .adcZpX _ => .ADC
  | .rorZpX _ => .ROR
  | .rraZpX _ => .RRA
  | .sei => .SEI
  | .adcAbsY _ => .ADC
  | .nop7A => .NOP
  | .rraAbsY _ => .RRA
  | .nopAbsX7C _ => .NOP
  | .adcAbsX _ => .ADC
  | .rorAbsX _ => .ROR
  | .rraAbsX _ => .RRA
  | .nopImm80 _ => .NOP
  | .staIndX _ => .STA
  | .nopImm82 _ => .NOP
  | .saxIndX _ => .SAX
  | .styZp _ => .STY
  | .staZp _ => .STA
  | .stxZp _ => .STX
  | .saxZp _ => .SAX
  | .dey => .DEY
  | .nopImm89 _ => .NOP
  | .txa => .TXA
  | .aneImm _ => .ANE
  | .styAbs _ => .STY
  | .staAbs _ => .STA
  | .stxAbs _ => .STX
  | .saxAbs _ => .SAX
  | .bcc _ => .BCC
  | .staIndY _ => .STA
  | .jam92 => .JAM
  | .shaIndY _ => .SHA
  | .styZpX _ => .STY
  | .staZpX _ => .STA
  | .stxZpY _ => .STX
  | .saxZpY _ => .SAX
  | .tya => .TYA
  | .staAbsY _ => .STA
  | .txs => .TXS
  | .tasAbsY _ => .TAS
  | .shyAbsX _ => .SHY
  | .staAbsX _ => .STA
  | .shxAbsY _ => .SHX
  | .shaAbsY _ => .SHA
  | .ldyImm _ => .LDY
  | .ldaIndX _ => .LDA
  | .ldxImm _ => .LDX
  | .laxIndX _ => .LAX
  | .ldyZp _ => .LDY
  | .ldaZp _ => .LDA
  | .ldxZp _ => .LDX
  | .laxZp _ => .LAX
  | .tay => .TAY
  | .ldaImm _ => .LDA
  | .tax => .TAX
  | .lxaImm _ => .LXA
  | .ldyAbs _ => .LDY
  | .ldaAbs _ => .LDA
  | .ldxAbs _ => .LDX
  | .laxAbs _ => .LAX
  | .bcs _ => .BCS
  | .ldaIndY _ => .LDA
  | .jamB2 => .JAM
  | .laxIndY _ => .LAX
  | .ldyZpX _ => .LDY
  | .ldaZpX _ => .LDA
  | .ldxZpY _ => .LDX
  | .laxZpY _ => .LAX
  | .clv => .CLV
  | .ldaAbsY _ => .LDA
  | .tsx => .TSX
  | .lasAbsY _ => .LAS
  | .ldyAbsX _ => .LDY
  | .ldaAbsX _ => .LDA
  | .ldxAbsY _ => .LDX
  | .laxAbsY _ => .LAX
  | .cpyImm _ => .CPY
  | .cmpIndX _ => .CMP
  | .nopImmC2 _ => .NOP
  | .dcpIndX _ => .DCP
  | .cpyZp _ => .CPY
  | .cmpZp _ => .CMP
  | .decZp _ => .DEC
  | .dcpZp _ => .DCP
  | .iny => .INY
  | .cmpImm _ => .CMP
  | .dex => .DEX
  | .sbxImm _ => .SBX
  | .cpyAbs _ => .CPY
  | .cmpAbs _ => .CMP
  | .decAbs _ => .DEC
  | .dcpAbs _ => .DCP
  | .bne _ => .BNE
  | .cmpIndY _ => .CMP
  | .jamD2 => .JAM
  | .dcpIndY _ => .DCP
  | .nopZpXD4 _ => .NOP
  | .cmpZpX _ => .CMP
  | .decZpX _ => .DEC
  | .dcpZpX _ => .DCP
  | .cld => .CLD
  | .cmpAbsY _ => .CMP
  | .nopDA => .NOP
  | .dcpAbsY _ => .DCP
  | .nopAbsXDC _ => .NOP
  | .cmpAbsX _ => .CMP
  | .decAbsX _ => .DEC
  | .dcpAbsX _ => .DCP
  | .cpxImm _ => .CPX
  | .sbcIndX _ => .SBC
  | .nopImmE2 _ => .NOP
  | .iscIndX _ => .ISC
  | .cpxZp _ => .CPX
  | .sbcZp _ => .SBC
  | .incZp _ => .INC
  | .iscZp _ => .ISC
  | .inx => .INX
  | .sbcImm _ => .SBC
  | .nop => .NOP
  | .usbcImm _ => .USBC
  | .cpxAbs _ => .CPX
  | .sbcAbs _ => .SBC
  | .incAbs _ => .INC
  | .iscAbs _ => .ISC
  | .beq _ => .BEQ
  | .sbcIndY _ => .SBC
  | .jamF2 => .JAM
  | .iscIndY _ => .ISC
  | .nopZpXF4 _ => .NOP
  | .sbcZpX _ => .SBC
  | .incZpX _ => .INC
  | .iscZpX _ => .ISC
  | .sed => .SED
  | .sbcAbsY _ => .SBC
  | .nopFA => .NOP
  | .iscAbsY _ => .ISC
  | .nopAbsXFC _ => .NOP
  | .sbcAbsX _ => .SBC
  | .incAbsX _ => .INC
  | .iscAbsX _ => .ISC

/-- The operand of each row in its addressing mode (R101, R106). -/
def Instr.operand : Instr → Operand
  | .brk => .implied
  | .oraIndX z => .mem (.indX z)
  | .jam02 => .implied
  | .sloIndX z => .mem (.indX z)
  | .nopZp04 z => .mem (.zp z)
  | .oraZp z => .mem (.zp z)
  | .aslZp z => .mem (.zp z)
  | .sloZp z => .mem (.zp z)
  | .php => .implied
  | .oraImm imm => .immediate imm
  | .aslA => .accumulator
  | .ancImm0B imm => .immediate imm
  | .nopAbs0C addr => .mem (.abs addr)
  | .oraAbs addr => .mem (.abs addr)
  | .aslAbs addr => .mem (.abs addr)
  | .sloAbs addr => .mem (.abs addr)
  | .bpl off => .offset off
  | .oraIndY z => .mem (.indY z)
  | .jam12 => .implied
  | .sloIndY z => .mem (.indY z)
  | .nopZpX14 z => .mem (.zpX z)
  | .oraZpX z => .mem (.zpX z)
  | .aslZpX z => .mem (.zpX z)
  | .sloZpX z => .mem (.zpX z)
  | .clc => .implied
  | .oraAbsY addr => .mem (.absY addr)
  | .nop1A => .implied
  | .sloAbsY addr => .mem (.absY addr)
  | .nopAbsX1C addr => .mem (.absX addr)
  | .oraAbsX addr => .mem (.absX addr)
  | .aslAbsX addr => .mem (.absX addr)
  | .sloAbsX addr => .mem (.absX addr)
  | .jsr l => .targetLow l
  | .andIndX z => .mem (.indX z)
  | .jam22 => .implied
  | .rlaIndX z => .mem (.indX z)
  | .bitZp z => .mem (.zp z)
  | .andZp z => .mem (.zp z)
  | .rolZp z => .mem (.zp z)
  | .rlaZp z => .mem (.zp z)
  | .plp => .implied
  | .andImm imm => .immediate imm
  | .rolA => .accumulator
  | .ancImm2B imm => .immediate imm
  | .bitAbs addr => .mem (.abs addr)
  | .andAbs addr => .mem (.abs addr)
  | .rolAbs addr => .mem (.abs addr)
  | .rlaAbs addr => .mem (.abs addr)
  | .bmi off => .offset off
  | .andIndY z => .mem (.indY z)
  | .jam32 => .implied
  | .rlaIndY z => .mem (.indY z)
  | .nopZpX34 z => .mem (.zpX z)
  | .andZpX z => .mem (.zpX z)
  | .rolZpX z => .mem (.zpX z)
  | .rlaZpX z => .mem (.zpX z)
  | .sec => .implied
  | .andAbsY addr => .mem (.absY addr)
  | .nop3A => .implied
  | .rlaAbsY addr => .mem (.absY addr)
  | .nopAbsX3C addr => .mem (.absX addr)
  | .andAbsX addr => .mem (.absX addr)
  | .rolAbsX addr => .mem (.absX addr)
  | .rlaAbsX addr => .mem (.absX addr)
  | .rti => .implied
  | .eorIndX z => .mem (.indX z)
  | .jam42 => .implied
  | .sreIndX z => .mem (.indX z)
  | .nopZp44 z => .mem (.zp z)
  | .eorZp z => .mem (.zp z)
  | .lsrZp z => .mem (.zp z)
  | .sreZp z => .mem (.zp z)
  | .pha => .implied
  | .eorImm imm => .immediate imm
  | .lsrA => .accumulator
  | .alrImm imm => .immediate imm
  | .jmpAbs addr => .target addr
  | .eorAbs addr => .mem (.abs addr)
  | .lsrAbs addr => .mem (.abs addr)
  | .sreAbs addr => .mem (.abs addr)
  | .bvc off => .offset off
  | .eorIndY z => .mem (.indY z)
  | .jam52 => .implied
  | .sreIndY z => .mem (.indY z)
  | .nopZpX54 z => .mem (.zpX z)
  | .eorZpX z => .mem (.zpX z)
  | .lsrZpX z => .mem (.zpX z)
  | .sreZpX z => .mem (.zpX z)
  | .cli => .implied
  | .eorAbsY addr => .mem (.absY addr)
  | .nop5A => .implied
  | .sreAbsY addr => .mem (.absY addr)
  | .nopAbsX5C addr => .mem (.absX addr)
  | .eorAbsX addr => .mem (.absX addr)
  | .lsrAbsX addr => .mem (.absX addr)
  | .sreAbsX addr => .mem (.absX addr)
  | .rts => .implied
  | .adcIndX z => .mem (.indX z)
  | .jam62 => .implied
  | .rraIndX z => .mem (.indX z)
  | .nopZp64 z => .mem (.zp z)
  | .adcZp z => .mem (.zp z)
  | .rorZp z => .mem (.zp z)
  | .rraZp z => .mem (.zp z)
  | .pla => .implied
  | .adcImm imm => .immediate imm
  | .rorA => .accumulator
  | .arrImm imm => .immediate imm
  | .jmpInd ptr => .pointer ptr
  | .adcAbs addr => .mem (.abs addr)
  | .rorAbs addr => .mem (.abs addr)
  | .rraAbs addr => .mem (.abs addr)
  | .bvs off => .offset off
  | .adcIndY z => .mem (.indY z)
  | .jam72 => .implied
  | .rraIndY z => .mem (.indY z)
  | .nopZpX74 z => .mem (.zpX z)
  | .adcZpX z => .mem (.zpX z)
  | .rorZpX z => .mem (.zpX z)
  | .rraZpX z => .mem (.zpX z)
  | .sei => .implied
  | .adcAbsY addr => .mem (.absY addr)
  | .nop7A => .implied
  | .rraAbsY addr => .mem (.absY addr)
  | .nopAbsX7C addr => .mem (.absX addr)
  | .adcAbsX addr => .mem (.absX addr)
  | .rorAbsX addr => .mem (.absX addr)
  | .rraAbsX addr => .mem (.absX addr)
  | .nopImm80 imm => .immediate imm
  | .staIndX z => .mem (.indX z)
  | .nopImm82 imm => .immediate imm
  | .saxIndX z => .mem (.indX z)
  | .styZp z => .mem (.zp z)
  | .staZp z => .mem (.zp z)
  | .stxZp z => .mem (.zp z)
  | .saxZp z => .mem (.zp z)
  | .dey => .implied
  | .nopImm89 imm => .immediate imm
  | .txa => .implied
  | .aneImm imm => .immediate imm
  | .styAbs addr => .mem (.abs addr)
  | .staAbs addr => .mem (.abs addr)
  | .stxAbs addr => .mem (.abs addr)
  | .saxAbs addr => .mem (.abs addr)
  | .bcc off => .offset off
  | .staIndY z => .mem (.indY z)
  | .jam92 => .implied
  | .shaIndY z => .mem (.indY z)
  | .styZpX z => .mem (.zpX z)
  | .staZpX z => .mem (.zpX z)
  | .stxZpY z => .mem (.zpY z)
  | .saxZpY z => .mem (.zpY z)
  | .tya => .implied
  | .staAbsY addr => .mem (.absY addr)
  | .txs => .implied
  | .tasAbsY addr => .mem (.absY addr)
  | .shyAbsX addr => .mem (.absX addr)
  | .staAbsX addr => .mem (.absX addr)
  | .shxAbsY addr => .mem (.absY addr)
  | .shaAbsY addr => .mem (.absY addr)
  | .ldyImm imm => .immediate imm
  | .ldaIndX z => .mem (.indX z)
  | .ldxImm imm => .immediate imm
  | .laxIndX z => .mem (.indX z)
  | .ldyZp z => .mem (.zp z)
  | .ldaZp z => .mem (.zp z)
  | .ldxZp z => .mem (.zp z)
  | .laxZp z => .mem (.zp z)
  | .tay => .implied
  | .ldaImm imm => .immediate imm
  | .tax => .implied
  | .lxaImm imm => .immediate imm
  | .ldyAbs addr => .mem (.abs addr)
  | .ldaAbs addr => .mem (.abs addr)
  | .ldxAbs addr => .mem (.abs addr)
  | .laxAbs addr => .mem (.abs addr)
  | .bcs off => .offset off
  | .ldaIndY z => .mem (.indY z)
  | .jamB2 => .implied
  | .laxIndY z => .mem (.indY z)
  | .ldyZpX z => .mem (.zpX z)
  | .ldaZpX z => .mem (.zpX z)
  | .ldxZpY z => .mem (.zpY z)
  | .laxZpY z => .mem (.zpY z)
  | .clv => .implied
  | .ldaAbsY addr => .mem (.absY addr)
  | .tsx => .implied
  | .lasAbsY addr => .mem (.absY addr)
  | .ldyAbsX addr => .mem (.absX addr)
  | .ldaAbsX addr => .mem (.absX addr)
  | .ldxAbsY addr => .mem (.absY addr)
  | .laxAbsY addr => .mem (.absY addr)
  | .cpyImm imm => .immediate imm
  | .cmpIndX z => .mem (.indX z)
  | .nopImmC2 imm => .immediate imm
  | .dcpIndX z => .mem (.indX z)
  | .cpyZp z => .mem (.zp z)
  | .cmpZp z => .mem (.zp z)
  | .decZp z => .mem (.zp z)
  | .dcpZp z => .mem (.zp z)
  | .iny => .implied
  | .cmpImm imm => .immediate imm
  | .dex => .implied
  | .sbxImm imm => .immediate imm
  | .cpyAbs addr => .mem (.abs addr)
  | .cmpAbs addr => .mem (.abs addr)
  | .decAbs addr => .mem (.abs addr)
  | .dcpAbs addr => .mem (.abs addr)
  | .bne off => .offset off
  | .cmpIndY z => .mem (.indY z)
  | .jamD2 => .implied
  | .dcpIndY z => .mem (.indY z)
  | .nopZpXD4 z => .mem (.zpX z)
  | .cmpZpX z => .mem (.zpX z)
  | .decZpX z => .mem (.zpX z)
  | .dcpZpX z => .mem (.zpX z)
  | .cld => .implied
  | .cmpAbsY addr => .mem (.absY addr)
  | .nopDA => .implied
  | .dcpAbsY addr => .mem (.absY addr)
  | .nopAbsXDC addr => .mem (.absX addr)
  | .cmpAbsX addr => .mem (.absX addr)
  | .decAbsX addr => .mem (.absX addr)
  | .dcpAbsX addr => .mem (.absX addr)
  | .cpxImm imm => .immediate imm
  | .sbcIndX z => .mem (.indX z)
  | .nopImmE2 imm => .immediate imm
  | .iscIndX z => .mem (.indX z)
  | .cpxZp z => .mem (.zp z)
  | .sbcZp z => .mem (.zp z)
  | .incZp z => .mem (.zp z)
  | .iscZp z => .mem (.zp z)
  | .inx => .implied
  | .sbcImm imm => .immediate imm
  | .nop => .implied
  | .usbcImm imm => .immediate imm
  | .cpxAbs addr => .mem (.abs addr)
  | .sbcAbs addr => .mem (.abs addr)
  | .incAbs addr => .mem (.abs addr)
  | .iscAbs addr => .mem (.abs addr)
  | .beq off => .offset off
  | .sbcIndY z => .mem (.indY z)
  | .jamF2 => .implied
  | .iscIndY z => .mem (.indY z)
  | .nopZpXF4 z => .mem (.zpX z)
  | .sbcZpX z => .mem (.zpX z)
  | .incZpX z => .mem (.zpX z)
  | .iscZpX z => .mem (.zpX z)
  | .sed => .implied
  | .sbcAbsY addr => .mem (.absY addr)
  | .nopFA => .implied
  | .iscAbsY addr => .mem (.absY addr)
  | .nopAbsXFC addr => .mem (.absX addr)
  | .sbcAbsX addr => .mem (.absX addr)
  | .incAbsX addr => .mem (.absX addr)
  | .iscAbsX addr => .mem (.absX addr)

/-- The opcode byte of each row (R106). -/
def Instr.opcode : Instr → Byte
  | .brk => 0x00
  | .oraIndX _ => 0x01
  | .jam02 => 0x02
  | .sloIndX _ => 0x03
  | .nopZp04 _ => 0x04
  | .oraZp _ => 0x05
  | .aslZp _ => 0x06
  | .sloZp _ => 0x07
  | .php => 0x08
  | .oraImm _ => 0x09
  | .aslA => 0x0A
  | .ancImm0B _ => 0x0B
  | .nopAbs0C _ => 0x0C
  | .oraAbs _ => 0x0D
  | .aslAbs _ => 0x0E
  | .sloAbs _ => 0x0F
  | .bpl _ => 0x10
  | .oraIndY _ => 0x11
  | .jam12 => 0x12
  | .sloIndY _ => 0x13
  | .nopZpX14 _ => 0x14
  | .oraZpX _ => 0x15
  | .aslZpX _ => 0x16
  | .sloZpX _ => 0x17
  | .clc => 0x18
  | .oraAbsY _ => 0x19
  | .nop1A => 0x1A
  | .sloAbsY _ => 0x1B
  | .nopAbsX1C _ => 0x1C
  | .oraAbsX _ => 0x1D
  | .aslAbsX _ => 0x1E
  | .sloAbsX _ => 0x1F
  | .jsr _ => 0x20
  | .andIndX _ => 0x21
  | .jam22 => 0x22
  | .rlaIndX _ => 0x23
  | .bitZp _ => 0x24
  | .andZp _ => 0x25
  | .rolZp _ => 0x26
  | .rlaZp _ => 0x27
  | .plp => 0x28
  | .andImm _ => 0x29
  | .rolA => 0x2A
  | .ancImm2B _ => 0x2B
  | .bitAbs _ => 0x2C
  | .andAbs _ => 0x2D
  | .rolAbs _ => 0x2E
  | .rlaAbs _ => 0x2F
  | .bmi _ => 0x30
  | .andIndY _ => 0x31
  | .jam32 => 0x32
  | .rlaIndY _ => 0x33
  | .nopZpX34 _ => 0x34
  | .andZpX _ => 0x35
  | .rolZpX _ => 0x36
  | .rlaZpX _ => 0x37
  | .sec => 0x38
  | .andAbsY _ => 0x39
  | .nop3A => 0x3A
  | .rlaAbsY _ => 0x3B
  | .nopAbsX3C _ => 0x3C
  | .andAbsX _ => 0x3D
  | .rolAbsX _ => 0x3E
  | .rlaAbsX _ => 0x3F
  | .rti => 0x40
  | .eorIndX _ => 0x41
  | .jam42 => 0x42
  | .sreIndX _ => 0x43
  | .nopZp44 _ => 0x44
  | .eorZp _ => 0x45
  | .lsrZp _ => 0x46
  | .sreZp _ => 0x47
  | .pha => 0x48
  | .eorImm _ => 0x49
  | .lsrA => 0x4A
  | .alrImm _ => 0x4B
  | .jmpAbs _ => 0x4C
  | .eorAbs _ => 0x4D
  | .lsrAbs _ => 0x4E
  | .sreAbs _ => 0x4F
  | .bvc _ => 0x50
  | .eorIndY _ => 0x51
  | .jam52 => 0x52
  | .sreIndY _ => 0x53
  | .nopZpX54 _ => 0x54
  | .eorZpX _ => 0x55
  | .lsrZpX _ => 0x56
  | .sreZpX _ => 0x57
  | .cli => 0x58
  | .eorAbsY _ => 0x59
  | .nop5A => 0x5A
  | .sreAbsY _ => 0x5B
  | .nopAbsX5C _ => 0x5C
  | .eorAbsX _ => 0x5D
  | .lsrAbsX _ => 0x5E
  | .sreAbsX _ => 0x5F
  | .rts => 0x60
  | .adcIndX _ => 0x61
  | .jam62 => 0x62
  | .rraIndX _ => 0x63
  | .nopZp64 _ => 0x64
  | .adcZp _ => 0x65
  | .rorZp _ => 0x66
  | .rraZp _ => 0x67
  | .pla => 0x68
  | .adcImm _ => 0x69
  | .rorA => 0x6A
  | .arrImm _ => 0x6B
  | .jmpInd _ => 0x6C
  | .adcAbs _ => 0x6D
  | .rorAbs _ => 0x6E
  | .rraAbs _ => 0x6F
  | .bvs _ => 0x70
  | .adcIndY _ => 0x71
  | .jam72 => 0x72
  | .rraIndY _ => 0x73
  | .nopZpX74 _ => 0x74
  | .adcZpX _ => 0x75
  | .rorZpX _ => 0x76
  | .rraZpX _ => 0x77
  | .sei => 0x78
  | .adcAbsY _ => 0x79
  | .nop7A => 0x7A
  | .rraAbsY _ => 0x7B
  | .nopAbsX7C _ => 0x7C
  | .adcAbsX _ => 0x7D
  | .rorAbsX _ => 0x7E
  | .rraAbsX _ => 0x7F
  | .nopImm80 _ => 0x80
  | .staIndX _ => 0x81
  | .nopImm82 _ => 0x82
  | .saxIndX _ => 0x83
  | .styZp _ => 0x84
  | .staZp _ => 0x85
  | .stxZp _ => 0x86
  | .saxZp _ => 0x87
  | .dey => 0x88
  | .nopImm89 _ => 0x89
  | .txa => 0x8A
  | .aneImm _ => 0x8B
  | .styAbs _ => 0x8C
  | .staAbs _ => 0x8D
  | .stxAbs _ => 0x8E
  | .saxAbs _ => 0x8F
  | .bcc _ => 0x90
  | .staIndY _ => 0x91
  | .jam92 => 0x92
  | .shaIndY _ => 0x93
  | .styZpX _ => 0x94
  | .staZpX _ => 0x95
  | .stxZpY _ => 0x96
  | .saxZpY _ => 0x97
  | .tya => 0x98
  | .staAbsY _ => 0x99
  | .txs => 0x9A
  | .tasAbsY _ => 0x9B
  | .shyAbsX _ => 0x9C
  | .staAbsX _ => 0x9D
  | .shxAbsY _ => 0x9E
  | .shaAbsY _ => 0x9F
  | .ldyImm _ => 0xA0
  | .ldaIndX _ => 0xA1
  | .ldxImm _ => 0xA2
  | .laxIndX _ => 0xA3
  | .ldyZp _ => 0xA4
  | .ldaZp _ => 0xA5
  | .ldxZp _ => 0xA6
  | .laxZp _ => 0xA7
  | .tay => 0xA8
  | .ldaImm _ => 0xA9
  | .tax => 0xAA
  | .lxaImm _ => 0xAB
  | .ldyAbs _ => 0xAC
  | .ldaAbs _ => 0xAD
  | .ldxAbs _ => 0xAE
  | .laxAbs _ => 0xAF
  | .bcs _ => 0xB0
  | .ldaIndY _ => 0xB1
  | .jamB2 => 0xB2
  | .laxIndY _ => 0xB3
  | .ldyZpX _ => 0xB4
  | .ldaZpX _ => 0xB5
  | .ldxZpY _ => 0xB6
  | .laxZpY _ => 0xB7
  | .clv => 0xB8
  | .ldaAbsY _ => 0xB9
  | .tsx => 0xBA
  | .lasAbsY _ => 0xBB
  | .ldyAbsX _ => 0xBC
  | .ldaAbsX _ => 0xBD
  | .ldxAbsY _ => 0xBE
  | .laxAbsY _ => 0xBF
  | .cpyImm _ => 0xC0
  | .cmpIndX _ => 0xC1
  | .nopImmC2 _ => 0xC2
  | .dcpIndX _ => 0xC3
  | .cpyZp _ => 0xC4
  | .cmpZp _ => 0xC5
  | .decZp _ => 0xC6
  | .dcpZp _ => 0xC7
  | .iny => 0xC8
  | .cmpImm _ => 0xC9
  | .dex => 0xCA
  | .sbxImm _ => 0xCB
  | .cpyAbs _ => 0xCC
  | .cmpAbs _ => 0xCD
  | .decAbs _ => 0xCE
  | .dcpAbs _ => 0xCF
  | .bne _ => 0xD0
  | .cmpIndY _ => 0xD1
  | .jamD2 => 0xD2
  | .dcpIndY _ => 0xD3
  | .nopZpXD4 _ => 0xD4
  | .cmpZpX _ => 0xD5
  | .decZpX _ => 0xD6
  | .dcpZpX _ => 0xD7
  | .cld => 0xD8
  | .cmpAbsY _ => 0xD9
  | .nopDA => 0xDA
  | .dcpAbsY _ => 0xDB
  | .nopAbsXDC _ => 0xDC
  | .cmpAbsX _ => 0xDD
  | .decAbsX _ => 0xDE
  | .dcpAbsX _ => 0xDF
  | .cpxImm _ => 0xE0
  | .sbcIndX _ => 0xE1
  | .nopImmE2 _ => 0xE2
  | .iscIndX _ => 0xE3
  | .cpxZp _ => 0xE4
  | .sbcZp _ => 0xE5
  | .incZp _ => 0xE6
  | .iscZp _ => 0xE7
  | .inx => 0xE8
  | .sbcImm _ => 0xE9
  | .nop => 0xEA
  | .usbcImm _ => 0xEB
  | .cpxAbs _ => 0xEC
  | .sbcAbs _ => 0xED
  | .incAbs _ => 0xEE
  | .iscAbs _ => 0xEF
  | .beq _ => 0xF0
  | .sbcIndY _ => 0xF1
  | .jamF2 => 0xF2
  | .iscIndY _ => 0xF3
  | .nopZpXF4 _ => 0xF4
  | .sbcZpX _ => 0xF5
  | .incZpX _ => 0xF6
  | .iscZpX _ => 0xF7
  | .sed => 0xF8
  | .sbcAbsY _ => 0xF9
  | .nopFA => 0xFA
  | .iscAbsY _ => 0xFB
  | .nopAbsXFC _ => 0xFC
  | .sbcAbsX _ => 0xFD
  | .incAbsX _ => 0xFE
  | .iscAbsX _ => 0xFF

/-- The format of an operand (R101). -/
def MemOperand.format : MemOperand → Format
  | .zp _ => .zeropage
  | .zpX _ => .zeropageX
  | .zpY _ => .zeropageY
  | .abs _ => .absolute
  | .absX _ => .absoluteX
  | .absY _ => .absoluteY
  | .indX _ => .indexedIndirectX
  | .indY _ => .indirectIndexedY

/-- The format of an operand (R101). -/
def Operand.format : Operand → Format
  | .implied => .implied
  | .accumulator => .accumulator
  | .immediate _ => .immediate
  | .mem m => m.format
  | .target _ | .targetLow _ => .absolute
  | .pointer _ => .absoluteIndirect
  | .offset _ => .relative

/-- The format of an instruction (R101). -/
def Instr.format (i : Instr) : Format := i.operand.format

/-! ## The opcode table -/

/-- A row of the opcode table: the columns of `opcode_table.json` (R104). -/
structure OpcodeRow where
  mnemonic : Mnemonic
  format : Format
  bytes : Nat
  pcAdvance : Nat
  baseCycles : Nat
  pageCrossPenalty : Bool
  branchPenalty : Bool
  accessClass : AccessClass
  documented : Bool
deriving DecidableEq, Repr

/-- Rows $00 to $0F of the opcode table (R106, R459 to R462). -/
def opcodeRows0 : List OpcodeRow :=
  [⟨.BRK, .implied, 1, 2, 7, false, false, .stackControl, true⟩,
   ⟨.ORA, .indexedIndirectX, 2, 2, 6, false, false, .read, true⟩,
   ⟨.JAM, .implied, 1, 1, 2, false, false, .jam, false⟩,
   ⟨.SLO, .indexedIndirectX, 2, 2, 8, false, false, .readModifyWrite, false⟩,
   ⟨.NOP, .zeropage, 2, 2, 3, false, false, .read, false⟩,
   ⟨.ORA, .zeropage, 2, 2, 3, false, false, .read, true⟩,
   ⟨.ASL, .zeropage, 2, 2, 5, false, false, .readModifyWrite, true⟩,
   ⟨.SLO, .zeropage, 2, 2, 5, false, false, .readModifyWrite, false⟩,
   ⟨.PHP, .implied, 1, 1, 3, false, false, .stackControl, true⟩,
   ⟨.ORA, .immediate, 2, 2, 2, false, false, .read, true⟩,
   ⟨.ASL, .accumulator, 1, 1, 2, false, false, .accumulator, true⟩,
   ⟨.ANC, .immediate, 2, 2, 2, false, false, .read, false⟩,
   ⟨.NOP, .absolute, 3, 3, 4, false, false, .read, false⟩,
   ⟨.ORA, .absolute, 3, 3, 4, false, false, .read, true⟩,
   ⟨.ASL, .absolute, 3, 3, 6, false, false, .readModifyWrite, true⟩,
   ⟨.SLO, .absolute, 3, 3, 6, false, false, .readModifyWrite, false⟩]

/-- Rows $10 to $1F of the opcode table (R106, R459 to R462). -/
def opcodeRows1 : List OpcodeRow :=
  [⟨.BPL, .relative, 2, 2, 2, false, true, .branch, true⟩,
   ⟨.ORA, .indirectIndexedY, 2, 2, 5, true, false, .read, true⟩,
   ⟨.JAM, .implied, 1, 1, 2, false, false, .jam, false⟩,
   ⟨.SLO, .indirectIndexedY, 2, 2, 8, false, false, .readModifyWrite, false⟩,
   ⟨.NOP, .zeropageX, 2, 2, 4, false, false, .read, false⟩,
   ⟨.ORA, .zeropageX, 2, 2, 4, false, false, .read, true⟩,
   ⟨.ASL, .zeropageX, 2, 2, 6, false, false, .readModifyWrite, true⟩,
   ⟨.SLO, .zeropageX, 2, 2, 6, false, false, .readModifyWrite, false⟩,
   ⟨.CLC, .implied, 1, 1, 2, false, false, .implied, true⟩,
   ⟨.ORA, .absoluteY, 3, 3, 4, true, false, .read, true⟩,
   ⟨.NOP, .implied, 1, 1, 2, false, false, .implied, false⟩,
   ⟨.SLO, .absoluteY, 3, 3, 7, false, false, .readModifyWrite, false⟩,
   ⟨.NOP, .absoluteX, 3, 3, 4, true, false, .read, false⟩,
   ⟨.ORA, .absoluteX, 3, 3, 4, true, false, .read, true⟩,
   ⟨.ASL, .absoluteX, 3, 3, 7, false, false, .readModifyWrite, true⟩,
   ⟨.SLO, .absoluteX, 3, 3, 7, false, false, .readModifyWrite, false⟩]

/-- Rows $20 to $2F of the opcode table (R106, R459 to R462). -/
def opcodeRows2 : List OpcodeRow :=
  [⟨.JSR, .absolute, 3, 3, 6, false, false, .stackControl, true⟩,
   ⟨.AND, .indexedIndirectX, 2, 2, 6, false, false, .read, true⟩,
   ⟨.JAM, .implied, 1, 1, 2, false, false, .jam, false⟩,
   ⟨.RLA, .indexedIndirectX, 2, 2, 8, false, false, .readModifyWrite, false⟩,
   ⟨.BIT, .zeropage, 2, 2, 3, false, false, .read, true⟩,
   ⟨.AND, .zeropage, 2, 2, 3, false, false, .read, true⟩,
   ⟨.ROL, .zeropage, 2, 2, 5, false, false, .readModifyWrite, true⟩,
   ⟨.RLA, .zeropage, 2, 2, 5, false, false, .readModifyWrite, false⟩,
   ⟨.PLP, .implied, 1, 1, 4, false, false, .stackControl, true⟩,
   ⟨.AND, .immediate, 2, 2, 2, false, false, .read, true⟩,
   ⟨.ROL, .accumulator, 1, 1, 2, false, false, .accumulator, true⟩,
   ⟨.ANC, .immediate, 2, 2, 2, false, false, .read, false⟩,
   ⟨.BIT, .absolute, 3, 3, 4, false, false, .read, true⟩,
   ⟨.AND, .absolute, 3, 3, 4, false, false, .read, true⟩,
   ⟨.ROL, .absolute, 3, 3, 6, false, false, .readModifyWrite, true⟩,
   ⟨.RLA, .absolute, 3, 3, 6, false, false, .readModifyWrite, false⟩]

/-- Rows $30 to $3F of the opcode table (R106, R459 to R462). -/
def opcodeRows3 : List OpcodeRow :=
  [⟨.BMI, .relative, 2, 2, 2, false, true, .branch, true⟩,
   ⟨.AND, .indirectIndexedY, 2, 2, 5, true, false, .read, true⟩,
   ⟨.JAM, .implied, 1, 1, 2, false, false, .jam, false⟩,
   ⟨.RLA, .indirectIndexedY, 2, 2, 8, false, false, .readModifyWrite, false⟩,
   ⟨.NOP, .zeropageX, 2, 2, 4, false, false, .read, false⟩,
   ⟨.AND, .zeropageX, 2, 2, 4, false, false, .read, true⟩,
   ⟨.ROL, .zeropageX, 2, 2, 6, false, false, .readModifyWrite, true⟩,
   ⟨.RLA, .zeropageX, 2, 2, 6, false, false, .readModifyWrite, false⟩,
   ⟨.SEC, .implied, 1, 1, 2, false, false, .implied, true⟩,
   ⟨.AND, .absoluteY, 3, 3, 4, true, false, .read, true⟩,
   ⟨.NOP, .implied, 1, 1, 2, false, false, .implied, false⟩,
   ⟨.RLA, .absoluteY, 3, 3, 7, false, false, .readModifyWrite, false⟩,
   ⟨.NOP, .absoluteX, 3, 3, 4, true, false, .read, false⟩,
   ⟨.AND, .absoluteX, 3, 3, 4, true, false, .read, true⟩,
   ⟨.ROL, .absoluteX, 3, 3, 7, false, false, .readModifyWrite, true⟩,
   ⟨.RLA, .absoluteX, 3, 3, 7, false, false, .readModifyWrite, false⟩]

/-- Rows $40 to $4F of the opcode table (R106, R459 to R462). -/
def opcodeRows4 : List OpcodeRow :=
  [⟨.RTI, .implied, 1, 1, 6, false, false, .stackControl, true⟩,
   ⟨.EOR, .indexedIndirectX, 2, 2, 6, false, false, .read, true⟩,
   ⟨.JAM, .implied, 1, 1, 2, false, false, .jam, false⟩,
   ⟨.SRE, .indexedIndirectX, 2, 2, 8, false, false, .readModifyWrite, false⟩,
   ⟨.NOP, .zeropage, 2, 2, 3, false, false, .read, false⟩,
   ⟨.EOR, .zeropage, 2, 2, 3, false, false, .read, true⟩,
   ⟨.LSR, .zeropage, 2, 2, 5, false, false, .readModifyWrite, true⟩,
   ⟨.SRE, .zeropage, 2, 2, 5, false, false, .readModifyWrite, false⟩,
   ⟨.PHA, .implied, 1, 1, 3, false, false, .stackControl, true⟩,
   ⟨.EOR, .immediate, 2, 2, 2, false, false, .read, true⟩,
   ⟨.LSR, .accumulator, 1, 1, 2, false, false, .accumulator, true⟩,
   ⟨.ALR, .immediate, 2, 2, 2, false, false, .read, false⟩,
   ⟨.JMP, .absolute, 3, 3, 3, false, false, .jump, true⟩,
   ⟨.EOR, .absolute, 3, 3, 4, false, false, .read, true⟩,
   ⟨.LSR, .absolute, 3, 3, 6, false, false, .readModifyWrite, true⟩,
   ⟨.SRE, .absolute, 3, 3, 6, false, false, .readModifyWrite, false⟩]

/-- Rows $50 to $5F of the opcode table (R106, R459 to R462). -/
def opcodeRows5 : List OpcodeRow :=
  [⟨.BVC, .relative, 2, 2, 2, false, true, .branch, true⟩,
   ⟨.EOR, .indirectIndexedY, 2, 2, 5, true, false, .read, true⟩,
   ⟨.JAM, .implied, 1, 1, 2, false, false, .jam, false⟩,
   ⟨.SRE, .indirectIndexedY, 2, 2, 8, false, false, .readModifyWrite, false⟩,
   ⟨.NOP, .zeropageX, 2, 2, 4, false, false, .read, false⟩,
   ⟨.EOR, .zeropageX, 2, 2, 4, false, false, .read, true⟩,
   ⟨.LSR, .zeropageX, 2, 2, 6, false, false, .readModifyWrite, true⟩,
   ⟨.SRE, .zeropageX, 2, 2, 6, false, false, .readModifyWrite, false⟩,
   ⟨.CLI, .implied, 1, 1, 2, false, false, .implied, true⟩,
   ⟨.EOR, .absoluteY, 3, 3, 4, true, false, .read, true⟩,
   ⟨.NOP, .implied, 1, 1, 2, false, false, .implied, false⟩,
   ⟨.SRE, .absoluteY, 3, 3, 7, false, false, .readModifyWrite, false⟩,
   ⟨.NOP, .absoluteX, 3, 3, 4, true, false, .read, false⟩,
   ⟨.EOR, .absoluteX, 3, 3, 4, true, false, .read, true⟩,
   ⟨.LSR, .absoluteX, 3, 3, 7, false, false, .readModifyWrite, true⟩,
   ⟨.SRE, .absoluteX, 3, 3, 7, false, false, .readModifyWrite, false⟩]

/-- Rows $60 to $6F of the opcode table (R106, R459 to R462). -/
def opcodeRows6 : List OpcodeRow :=
  [⟨.RTS, .implied, 1, 1, 6, false, false, .stackControl, true⟩,
   ⟨.ADC, .indexedIndirectX, 2, 2, 6, false, false, .read, true⟩,
   ⟨.JAM, .implied, 1, 1, 2, false, false, .jam, false⟩,
   ⟨.RRA, .indexedIndirectX, 2, 2, 8, false, false, .readModifyWrite, false⟩,
   ⟨.NOP, .zeropage, 2, 2, 3, false, false, .read, false⟩,
   ⟨.ADC, .zeropage, 2, 2, 3, false, false, .read, true⟩,
   ⟨.ROR, .zeropage, 2, 2, 5, false, false, .readModifyWrite, true⟩,
   ⟨.RRA, .zeropage, 2, 2, 5, false, false, .readModifyWrite, false⟩,
   ⟨.PLA, .implied, 1, 1, 4, false, false, .stackControl, true⟩,
   ⟨.ADC, .immediate, 2, 2, 2, false, false, .read, true⟩,
   ⟨.ROR, .accumulator, 1, 1, 2, false, false, .accumulator, true⟩,
   ⟨.ARR, .immediate, 2, 2, 2, false, false, .read, false⟩,
   ⟨.JMP, .absoluteIndirect, 3, 3, 5, false, false, .jump, true⟩,
   ⟨.ADC, .absolute, 3, 3, 4, false, false, .read, true⟩,
   ⟨.ROR, .absolute, 3, 3, 6, false, false, .readModifyWrite, true⟩,
   ⟨.RRA, .absolute, 3, 3, 6, false, false, .readModifyWrite, false⟩]

/-- Rows $70 to $7F of the opcode table (R106, R459 to R462). -/
def opcodeRows7 : List OpcodeRow :=
  [⟨.BVS, .relative, 2, 2, 2, false, true, .branch, true⟩,
   ⟨.ADC, .indirectIndexedY, 2, 2, 5, true, false, .read, true⟩,
   ⟨.JAM, .implied, 1, 1, 2, false, false, .jam, false⟩,
   ⟨.RRA, .indirectIndexedY, 2, 2, 8, false, false, .readModifyWrite, false⟩,
   ⟨.NOP, .zeropageX, 2, 2, 4, false, false, .read, false⟩,
   ⟨.ADC, .zeropageX, 2, 2, 4, false, false, .read, true⟩,
   ⟨.ROR, .zeropageX, 2, 2, 6, false, false, .readModifyWrite, true⟩,
   ⟨.RRA, .zeropageX, 2, 2, 6, false, false, .readModifyWrite, false⟩,
   ⟨.SEI, .implied, 1, 1, 2, false, false, .implied, true⟩,
   ⟨.ADC, .absoluteY, 3, 3, 4, true, false, .read, true⟩,
   ⟨.NOP, .implied, 1, 1, 2, false, false, .implied, false⟩,
   ⟨.RRA, .absoluteY, 3, 3, 7, false, false, .readModifyWrite, false⟩,
   ⟨.NOP, .absoluteX, 3, 3, 4, true, false, .read, false⟩,
   ⟨.ADC, .absoluteX, 3, 3, 4, true, false, .read, true⟩,
   ⟨.ROR, .absoluteX, 3, 3, 7, false, false, .readModifyWrite, true⟩,
   ⟨.RRA, .absoluteX, 3, 3, 7, false, false, .readModifyWrite, false⟩]

/-- Rows $80 to $8F of the opcode table (R106, R459 to R462). -/
def opcodeRows8 : List OpcodeRow :=
  [⟨.NOP, .immediate, 2, 2, 2, false, false, .read, false⟩,
   ⟨.STA, .indexedIndirectX, 2, 2, 6, false, false, .write, true⟩,
   ⟨.NOP, .immediate, 2, 2, 2, false, false, .read, false⟩,
   ⟨.SAX, .indexedIndirectX, 2, 2, 6, false, false, .write, false⟩,
   ⟨.STY, .zeropage, 2, 2, 3, false, false, .write, true⟩,
   ⟨.STA, .zeropage, 2, 2, 3, false, false, .write, true⟩,
   ⟨.STX, .zeropage, 2, 2, 3, false, false, .write, true⟩,
   ⟨.SAX, .zeropage, 2, 2, 3, false, false, .write, false⟩,
   ⟨.DEY, .implied, 1, 1, 2, false, false, .implied, true⟩,
   ⟨.NOP, .immediate, 2, 2, 2, false, false, .read, false⟩,
   ⟨.TXA, .implied, 1, 1, 2, false, false, .implied, true⟩,
   ⟨.ANE, .immediate, 2, 2, 2, false, false, .read, false⟩,
   ⟨.STY, .absolute, 3, 3, 4, false, false, .write, true⟩,
   ⟨.STA, .absolute, 3, 3, 4, false, false, .write, true⟩,
   ⟨.STX, .absolute, 3, 3, 4, false, false, .write, true⟩,
   ⟨.SAX, .absolute, 3, 3, 4, false, false, .write, false⟩]

/-- Rows $90 to $9F of the opcode table (R106, R459 to R462). -/
def opcodeRows9 : List OpcodeRow :=
  [⟨.BCC, .relative, 2, 2, 2, false, true, .branch, true⟩,
   ⟨.STA, .indirectIndexedY, 2, 2, 6, false, false, .write, true⟩,
   ⟨.JAM, .implied, 1, 1, 2, false, false, .jam, false⟩,
   ⟨.SHA, .indirectIndexedY, 2, 2, 6, false, false, .write, false⟩,
   ⟨.STY, .zeropageX, 2, 2, 4, false, false, .write, true⟩,
   ⟨.STA, .zeropageX, 2, 2, 4, false, false, .write, true⟩,
   ⟨.STX, .zeropageY, 2, 2, 4, false, false, .write, true⟩,
   ⟨.SAX, .zeropageY, 2, 2, 4, false, false, .write, false⟩,
   ⟨.TYA, .implied, 1, 1, 2, false, false, .implied, true⟩,
   ⟨.STA, .absoluteY, 3, 3, 5, false, false, .write, true⟩,
   ⟨.TXS, .implied, 1, 1, 2, false, false, .implied, true⟩,
   ⟨.TAS, .absoluteY, 3, 3, 5, false, false, .write, false⟩,
   ⟨.SHY, .absoluteX, 3, 3, 5, false, false, .write, false⟩,
   ⟨.STA, .absoluteX, 3, 3, 5, false, false, .write, true⟩,
   ⟨.SHX, .absoluteY, 3, 3, 5, false, false, .write, false⟩,
   ⟨.SHA, .absoluteY, 3, 3, 5, false, false, .write, false⟩]

/-- Rows $A0 to $AF of the opcode table (R106, R459 to R462). -/
def opcodeRowsA : List OpcodeRow :=
  [⟨.LDY, .immediate, 2, 2, 2, false, false, .read, true⟩,
   ⟨.LDA, .indexedIndirectX, 2, 2, 6, false, false, .read, true⟩,
   ⟨.LDX, .immediate, 2, 2, 2, false, false, .read, true⟩,
   ⟨.LAX, .indexedIndirectX, 2, 2, 6, false, false, .read, false⟩,
   ⟨.LDY, .zeropage, 2, 2, 3, false, false, .read, true⟩,
   ⟨.LDA, .zeropage, 2, 2, 3, false, false, .read, true⟩,
   ⟨.LDX, .zeropage, 2, 2, 3, false, false, .read, true⟩,
   ⟨.LAX, .zeropage, 2, 2, 3, false, false, .read, false⟩,
   ⟨.TAY, .implied, 1, 1, 2, false, false, .implied, true⟩,
   ⟨.LDA, .immediate, 2, 2, 2, false, false, .read, true⟩,
   ⟨.TAX, .implied, 1, 1, 2, false, false, .implied, true⟩,
   ⟨.LXA, .immediate, 2, 2, 2, false, false, .read, false⟩,
   ⟨.LDY, .absolute, 3, 3, 4, false, false, .read, true⟩,
   ⟨.LDA, .absolute, 3, 3, 4, false, false, .read, true⟩,
   ⟨.LDX, .absolute, 3, 3, 4, false, false, .read, true⟩,
   ⟨.LAX, .absolute, 3, 3, 4, false, false, .read, false⟩]

/-- Rows $B0 to $BF of the opcode table (R106, R459 to R462). -/
def opcodeRowsB : List OpcodeRow :=
  [⟨.BCS, .relative, 2, 2, 2, false, true, .branch, true⟩,
   ⟨.LDA, .indirectIndexedY, 2, 2, 5, true, false, .read, true⟩,
   ⟨.JAM, .implied, 1, 1, 2, false, false, .jam, false⟩,
   ⟨.LAX, .indirectIndexedY, 2, 2, 5, true, false, .read, false⟩,
   ⟨.LDY, .zeropageX, 2, 2, 4, false, false, .read, true⟩,
   ⟨.LDA, .zeropageX, 2, 2, 4, false, false, .read, true⟩,
   ⟨.LDX, .zeropageY, 2, 2, 4, false, false, .read, true⟩,
   ⟨.LAX, .zeropageY, 2, 2, 4, false, false, .read, false⟩,
   ⟨.CLV, .implied, 1, 1, 2, false, false, .implied, true⟩,
   ⟨.LDA, .absoluteY, 3, 3, 4, true, false, .read, true⟩,
   ⟨.TSX, .implied, 1, 1, 2, false, false, .implied, true⟩,
   ⟨.LAS, .absoluteY, 3, 3, 4, true, false, .read, false⟩,
   ⟨.LDY, .absoluteX, 3, 3, 4, true, false, .read, true⟩,
   ⟨.LDA, .absoluteX, 3, 3, 4, true, false, .read, true⟩,
   ⟨.LDX, .absoluteY, 3, 3, 4, true, false, .read, true⟩,
   ⟨.LAX, .absoluteY, 3, 3, 4, true, false, .read, false⟩]

/-- Rows $C0 to $CF of the opcode table (R106, R459 to R462). -/
def opcodeRowsC : List OpcodeRow :=
  [⟨.CPY, .immediate, 2, 2, 2, false, false, .read, true⟩,
   ⟨.CMP, .indexedIndirectX, 2, 2, 6, false, false, .read, true⟩,
   ⟨.NOP, .immediate, 2, 2, 2, false, false, .read, false⟩,
   ⟨.DCP, .indexedIndirectX, 2, 2, 8, false, false, .readModifyWrite, false⟩,
   ⟨.CPY, .zeropage, 2, 2, 3, false, false, .read, true⟩,
   ⟨.CMP, .zeropage, 2, 2, 3, false, false, .read, true⟩,
   ⟨.DEC, .zeropage, 2, 2, 5, false, false, .readModifyWrite, true⟩,
   ⟨.DCP, .zeropage, 2, 2, 5, false, false, .readModifyWrite, false⟩,
   ⟨.INY, .implied, 1, 1, 2, false, false, .implied, true⟩,
   ⟨.CMP, .immediate, 2, 2, 2, false, false, .read, true⟩,
   ⟨.DEX, .implied, 1, 1, 2, false, false, .implied, true⟩,
   ⟨.SBX, .immediate, 2, 2, 2, false, false, .read, false⟩,
   ⟨.CPY, .absolute, 3, 3, 4, false, false, .read, true⟩,
   ⟨.CMP, .absolute, 3, 3, 4, false, false, .read, true⟩,
   ⟨.DEC, .absolute, 3, 3, 6, false, false, .readModifyWrite, true⟩,
   ⟨.DCP, .absolute, 3, 3, 6, false, false, .readModifyWrite, false⟩]

/-- Rows $D0 to $DF of the opcode table (R106, R459 to R462). -/
def opcodeRowsD : List OpcodeRow :=
  [⟨.BNE, .relative, 2, 2, 2, false, true, .branch, true⟩,
   ⟨.CMP, .indirectIndexedY, 2, 2, 5, true, false, .read, true⟩,
   ⟨.JAM, .implied, 1, 1, 2, false, false, .jam, false⟩,
   ⟨.DCP, .indirectIndexedY, 2, 2, 8, false, false, .readModifyWrite, false⟩,
   ⟨.NOP, .zeropageX, 2, 2, 4, false, false, .read, false⟩,
   ⟨.CMP, .zeropageX, 2, 2, 4, false, false, .read, true⟩,
   ⟨.DEC, .zeropageX, 2, 2, 6, false, false, .readModifyWrite, true⟩,
   ⟨.DCP, .zeropageX, 2, 2, 6, false, false, .readModifyWrite, false⟩,
   ⟨.CLD, .implied, 1, 1, 2, false, false, .implied, true⟩,
   ⟨.CMP, .absoluteY, 3, 3, 4, true, false, .read, true⟩,
   ⟨.NOP, .implied, 1, 1, 2, false, false, .implied, false⟩,
   ⟨.DCP, .absoluteY, 3, 3, 7, false, false, .readModifyWrite, false⟩,
   ⟨.NOP, .absoluteX, 3, 3, 4, true, false, .read, false⟩,
   ⟨.CMP, .absoluteX, 3, 3, 4, true, false, .read, true⟩,
   ⟨.DEC, .absoluteX, 3, 3, 7, false, false, .readModifyWrite, true⟩,
   ⟨.DCP, .absoluteX, 3, 3, 7, false, false, .readModifyWrite, false⟩]

/-- Rows $E0 to $EF of the opcode table (R106, R459 to R462). -/
def opcodeRowsE : List OpcodeRow :=
  [⟨.CPX, .immediate, 2, 2, 2, false, false, .read, true⟩,
   ⟨.SBC, .indexedIndirectX, 2, 2, 6, false, false, .read, true⟩,
   ⟨.NOP, .immediate, 2, 2, 2, false, false, .read, false⟩,
   ⟨.ISC, .indexedIndirectX, 2, 2, 8, false, false, .readModifyWrite, false⟩,
   ⟨.CPX, .zeropage, 2, 2, 3, false, false, .read, true⟩,
   ⟨.SBC, .zeropage, 2, 2, 3, false, false, .read, true⟩,
   ⟨.INC, .zeropage, 2, 2, 5, false, false, .readModifyWrite, true⟩,
   ⟨.ISC, .zeropage, 2, 2, 5, false, false, .readModifyWrite, false⟩,
   ⟨.INX, .implied, 1, 1, 2, false, false, .implied, true⟩,
   ⟨.SBC, .immediate, 2, 2, 2, false, false, .read, true⟩,
   ⟨.NOP, .implied, 1, 1, 2, false, false, .implied, true⟩,
   ⟨.USBC, .immediate, 2, 2, 2, false, false, .read, false⟩,
   ⟨.CPX, .absolute, 3, 3, 4, false, false, .read, true⟩,
   ⟨.SBC, .absolute, 3, 3, 4, false, false, .read, true⟩,
   ⟨.INC, .absolute, 3, 3, 6, false, false, .readModifyWrite, true⟩,
   ⟨.ISC, .absolute, 3, 3, 6, false, false, .readModifyWrite, false⟩]

/-- Rows $F0 to $FF of the opcode table (R106, R459 to R462). -/
def opcodeRowsF : List OpcodeRow :=
  [⟨.BEQ, .relative, 2, 2, 2, false, true, .branch, true⟩,
   ⟨.SBC, .indirectIndexedY, 2, 2, 5, true, false, .read, true⟩,
   ⟨.JAM, .implied, 1, 1, 2, false, false, .jam, false⟩,
   ⟨.ISC, .indirectIndexedY, 2, 2, 8, false, false, .readModifyWrite, false⟩,
   ⟨.NOP, .zeropageX, 2, 2, 4, false, false, .read, false⟩,
   ⟨.SBC, .zeropageX, 2, 2, 4, false, false, .read, true⟩,
   ⟨.INC, .zeropageX, 2, 2, 6, false, false, .readModifyWrite, true⟩,
   ⟨.ISC, .zeropageX, 2, 2, 6, false, false, .readModifyWrite, false⟩,
   ⟨.SED, .implied, 1, 1, 2, false, false, .implied, true⟩,
   ⟨.SBC, .absoluteY, 3, 3, 4, true, false, .read, true⟩,
   ⟨.NOP, .implied, 1, 1, 2, false, false, .implied, false⟩,
   ⟨.ISC, .absoluteY, 3, 3, 7, false, false, .readModifyWrite, false⟩,
   ⟨.NOP, .absoluteX, 3, 3, 4, true, false, .read, false⟩,
   ⟨.SBC, .absoluteX, 3, 3, 4, true, false, .read, true⟩,
   ⟨.INC, .absoluteX, 3, 3, 7, false, false, .readModifyWrite, true⟩,
   ⟨.ISC, .absoluteX, 3, 3, 7, false, false, .readModifyWrite, false⟩]

/-- The opcode table: row `n` is the row of opcode `n` (R104, R106). -/
def opcodeTable : List OpcodeRow :=
  opcodeRows0 ++ opcodeRows1 ++ opcodeRows2 ++ opcodeRows3
  ++ opcodeRows4 ++ opcodeRows5 ++ opcodeRows6 ++ opcodeRows7
  ++ opcodeRows8 ++ opcodeRows9 ++ opcodeRowsA ++ opcodeRowsB
  ++ opcodeRowsC ++ opcodeRowsD ++ opcodeRowsE ++ opcodeRowsF

/-- The row of an opcode byte; the last argument of `getD` is never reached, the table has 256 rows. -/
def opcodeRow (op : Byte) : OpcodeRow :=
  opcodeTable.getD op.toNat ⟨.BRK, .implied, 1, 2, 7, false, false, .stackControl, true⟩

/-- The row of an instruction. -/
def Instr.row (i : Instr) : OpcodeRow := opcodeRow i.opcode

/-! ## Decoding -/

/-- What opcodes $00 to $0F decode to, given the two bytes after the opcode (R103, R106). -/
def decodeRows0 : List (Byte → Byte → Instr) :=
  [fun _ _ => .brk,
   fun b _ => .oraIndX b,
   fun _ _ => .jam02,
   fun b _ => .sloIndX b,
   fun b _ => .nopZp04 b,
   fun b _ => .oraZp b,
   fun b _ => .aslZp b,
   fun b _ => .sloZp b,
   fun _ _ => .php,
   fun b _ => .oraImm b,
   fun _ _ => .aslA,
   fun b _ => .ancImm0B b,
   fun l h => .nopAbs0C (cat h l),
   fun l h => .oraAbs (cat h l),
   fun l h => .aslAbs (cat h l),
   fun l h => .sloAbs (cat h l)]

/-- What opcodes $10 to $1F decode to, given the two bytes after the opcode (R103, R106). -/
def decodeRows1 : List (Byte → Byte → Instr) :=
  [fun b _ => .bpl b,
   fun b _ => .oraIndY b,
   fun _ _ => .jam12,
   fun b _ => .sloIndY b,
   fun b _ => .nopZpX14 b,
   fun b _ => .oraZpX b,
   fun b _ => .aslZpX b,
   fun b _ => .sloZpX b,
   fun _ _ => .clc,
   fun l h => .oraAbsY (cat h l),
   fun _ _ => .nop1A,
   fun l h => .sloAbsY (cat h l),
   fun l h => .nopAbsX1C (cat h l),
   fun l h => .oraAbsX (cat h l),
   fun l h => .aslAbsX (cat h l),
   fun l h => .sloAbsX (cat h l)]

/-- What opcodes $20 to $2F decode to, given the two bytes after the opcode (R103, R106). -/
def decodeRows2 : List (Byte → Byte → Instr) :=
  [fun b _ => .jsr b,
   fun b _ => .andIndX b,
   fun _ _ => .jam22,
   fun b _ => .rlaIndX b,
   fun b _ => .bitZp b,
   fun b _ => .andZp b,
   fun b _ => .rolZp b,
   fun b _ => .rlaZp b,
   fun _ _ => .plp,
   fun b _ => .andImm b,
   fun _ _ => .rolA,
   fun b _ => .ancImm2B b,
   fun l h => .bitAbs (cat h l),
   fun l h => .andAbs (cat h l),
   fun l h => .rolAbs (cat h l),
   fun l h => .rlaAbs (cat h l)]

/-- What opcodes $30 to $3F decode to, given the two bytes after the opcode (R103, R106). -/
def decodeRows3 : List (Byte → Byte → Instr) :=
  [fun b _ => .bmi b,
   fun b _ => .andIndY b,
   fun _ _ => .jam32,
   fun b _ => .rlaIndY b,
   fun b _ => .nopZpX34 b,
   fun b _ => .andZpX b,
   fun b _ => .rolZpX b,
   fun b _ => .rlaZpX b,
   fun _ _ => .sec,
   fun l h => .andAbsY (cat h l),
   fun _ _ => .nop3A,
   fun l h => .rlaAbsY (cat h l),
   fun l h => .nopAbsX3C (cat h l),
   fun l h => .andAbsX (cat h l),
   fun l h => .rolAbsX (cat h l),
   fun l h => .rlaAbsX (cat h l)]

/-- What opcodes $40 to $4F decode to, given the two bytes after the opcode (R103, R106). -/
def decodeRows4 : List (Byte → Byte → Instr) :=
  [fun _ _ => .rti,
   fun b _ => .eorIndX b,
   fun _ _ => .jam42,
   fun b _ => .sreIndX b,
   fun b _ => .nopZp44 b,
   fun b _ => .eorZp b,
   fun b _ => .lsrZp b,
   fun b _ => .sreZp b,
   fun _ _ => .pha,
   fun b _ => .eorImm b,
   fun _ _ => .lsrA,
   fun b _ => .alrImm b,
   fun l h => .jmpAbs (cat h l),
   fun l h => .eorAbs (cat h l),
   fun l h => .lsrAbs (cat h l),
   fun l h => .sreAbs (cat h l)]

/-- What opcodes $50 to $5F decode to, given the two bytes after the opcode (R103, R106). -/
def decodeRows5 : List (Byte → Byte → Instr) :=
  [fun b _ => .bvc b,
   fun b _ => .eorIndY b,
   fun _ _ => .jam52,
   fun b _ => .sreIndY b,
   fun b _ => .nopZpX54 b,
   fun b _ => .eorZpX b,
   fun b _ => .lsrZpX b,
   fun b _ => .sreZpX b,
   fun _ _ => .cli,
   fun l h => .eorAbsY (cat h l),
   fun _ _ => .nop5A,
   fun l h => .sreAbsY (cat h l),
   fun l h => .nopAbsX5C (cat h l),
   fun l h => .eorAbsX (cat h l),
   fun l h => .lsrAbsX (cat h l),
   fun l h => .sreAbsX (cat h l)]

/-- What opcodes $60 to $6F decode to, given the two bytes after the opcode (R103, R106). -/
def decodeRows6 : List (Byte → Byte → Instr) :=
  [fun _ _ => .rts,
   fun b _ => .adcIndX b,
   fun _ _ => .jam62,
   fun b _ => .rraIndX b,
   fun b _ => .nopZp64 b,
   fun b _ => .adcZp b,
   fun b _ => .rorZp b,
   fun b _ => .rraZp b,
   fun _ _ => .pla,
   fun b _ => .adcImm b,
   fun _ _ => .rorA,
   fun b _ => .arrImm b,
   fun l h => .jmpInd (cat h l),
   fun l h => .adcAbs (cat h l),
   fun l h => .rorAbs (cat h l),
   fun l h => .rraAbs (cat h l)]

/-- What opcodes $70 to $7F decode to, given the two bytes after the opcode (R103, R106). -/
def decodeRows7 : List (Byte → Byte → Instr) :=
  [fun b _ => .bvs b,
   fun b _ => .adcIndY b,
   fun _ _ => .jam72,
   fun b _ => .rraIndY b,
   fun b _ => .nopZpX74 b,
   fun b _ => .adcZpX b,
   fun b _ => .rorZpX b,
   fun b _ => .rraZpX b,
   fun _ _ => .sei,
   fun l h => .adcAbsY (cat h l),
   fun _ _ => .nop7A,
   fun l h => .rraAbsY (cat h l),
   fun l h => .nopAbsX7C (cat h l),
   fun l h => .adcAbsX (cat h l),
   fun l h => .rorAbsX (cat h l),
   fun l h => .rraAbsX (cat h l)]

/-- What opcodes $80 to $8F decode to, given the two bytes after the opcode (R103, R106). -/
def decodeRows8 : List (Byte → Byte → Instr) :=
  [fun b _ => .nopImm80 b,
   fun b _ => .staIndX b,
   fun b _ => .nopImm82 b,
   fun b _ => .saxIndX b,
   fun b _ => .styZp b,
   fun b _ => .staZp b,
   fun b _ => .stxZp b,
   fun b _ => .saxZp b,
   fun _ _ => .dey,
   fun b _ => .nopImm89 b,
   fun _ _ => .txa,
   fun b _ => .aneImm b,
   fun l h => .styAbs (cat h l),
   fun l h => .staAbs (cat h l),
   fun l h => .stxAbs (cat h l),
   fun l h => .saxAbs (cat h l)]

/-- What opcodes $90 to $9F decode to, given the two bytes after the opcode (R103, R106). -/
def decodeRows9 : List (Byte → Byte → Instr) :=
  [fun b _ => .bcc b,
   fun b _ => .staIndY b,
   fun _ _ => .jam92,
   fun b _ => .shaIndY b,
   fun b _ => .styZpX b,
   fun b _ => .staZpX b,
   fun b _ => .stxZpY b,
   fun b _ => .saxZpY b,
   fun _ _ => .tya,
   fun l h => .staAbsY (cat h l),
   fun _ _ => .txs,
   fun l h => .tasAbsY (cat h l),
   fun l h => .shyAbsX (cat h l),
   fun l h => .staAbsX (cat h l),
   fun l h => .shxAbsY (cat h l),
   fun l h => .shaAbsY (cat h l)]

/-- What opcodes $A0 to $AF decode to, given the two bytes after the opcode (R103, R106). -/
def decodeRowsA : List (Byte → Byte → Instr) :=
  [fun b _ => .ldyImm b,
   fun b _ => .ldaIndX b,
   fun b _ => .ldxImm b,
   fun b _ => .laxIndX b,
   fun b _ => .ldyZp b,
   fun b _ => .ldaZp b,
   fun b _ => .ldxZp b,
   fun b _ => .laxZp b,
   fun _ _ => .tay,
   fun b _ => .ldaImm b,
   fun _ _ => .tax,
   fun b _ => .lxaImm b,
   fun l h => .ldyAbs (cat h l),
   fun l h => .ldaAbs (cat h l),
   fun l h => .ldxAbs (cat h l),
   fun l h => .laxAbs (cat h l)]

/-- What opcodes $B0 to $BF decode to, given the two bytes after the opcode (R103, R106). -/
def decodeRowsB : List (Byte → Byte → Instr) :=
  [fun b _ => .bcs b,
   fun b _ => .ldaIndY b,
   fun _ _ => .jamB2,
   fun b _ => .laxIndY b,
   fun b _ => .ldyZpX b,
   fun b _ => .ldaZpX b,
   fun b _ => .ldxZpY b,
   fun b _ => .laxZpY b,
   fun _ _ => .clv,
   fun l h => .ldaAbsY (cat h l),
   fun _ _ => .tsx,
   fun l h => .lasAbsY (cat h l),
   fun l h => .ldyAbsX (cat h l),
   fun l h => .ldaAbsX (cat h l),
   fun l h => .ldxAbsY (cat h l),
   fun l h => .laxAbsY (cat h l)]

/-- What opcodes $C0 to $CF decode to, given the two bytes after the opcode (R103, R106). -/
def decodeRowsC : List (Byte → Byte → Instr) :=
  [fun b _ => .cpyImm b,
   fun b _ => .cmpIndX b,
   fun b _ => .nopImmC2 b,
   fun b _ => .dcpIndX b,
   fun b _ => .cpyZp b,
   fun b _ => .cmpZp b,
   fun b _ => .decZp b,
   fun b _ => .dcpZp b,
   fun _ _ => .iny,
   fun b _ => .cmpImm b,
   fun _ _ => .dex,
   fun b _ => .sbxImm b,
   fun l h => .cpyAbs (cat h l),
   fun l h => .cmpAbs (cat h l),
   fun l h => .decAbs (cat h l),
   fun l h => .dcpAbs (cat h l)]

/-- What opcodes $D0 to $DF decode to, given the two bytes after the opcode (R103, R106). -/
def decodeRowsD : List (Byte → Byte → Instr) :=
  [fun b _ => .bne b,
   fun b _ => .cmpIndY b,
   fun _ _ => .jamD2,
   fun b _ => .dcpIndY b,
   fun b _ => .nopZpXD4 b,
   fun b _ => .cmpZpX b,
   fun b _ => .decZpX b,
   fun b _ => .dcpZpX b,
   fun _ _ => .cld,
   fun l h => .cmpAbsY (cat h l),
   fun _ _ => .nopDA,
   fun l h => .dcpAbsY (cat h l),
   fun l h => .nopAbsXDC (cat h l),
   fun l h => .cmpAbsX (cat h l),
   fun l h => .decAbsX (cat h l),
   fun l h => .dcpAbsX (cat h l)]

/-- What opcodes $E0 to $EF decode to, given the two bytes after the opcode (R103, R106). -/
def decodeRowsE : List (Byte → Byte → Instr) :=
  [fun b _ => .cpxImm b,
   fun b _ => .sbcIndX b,
   fun b _ => .nopImmE2 b,
   fun b _ => .iscIndX b,
   fun b _ => .cpxZp b,
   fun b _ => .sbcZp b,
   fun b _ => .incZp b,
   fun b _ => .iscZp b,
   fun _ _ => .inx,
   fun b _ => .sbcImm b,
   fun _ _ => .nop,
   fun b _ => .usbcImm b,
   fun l h => .cpxAbs (cat h l),
   fun l h => .sbcAbs (cat h l),
   fun l h => .incAbs (cat h l),
   fun l h => .iscAbs (cat h l)]

/-- What opcodes $F0 to $FF decode to, given the two bytes after the opcode (R103, R106). -/
def decodeRowsF : List (Byte → Byte → Instr) :=
  [fun b _ => .beq b,
   fun b _ => .sbcIndY b,
   fun _ _ => .jamF2,
   fun b _ => .iscIndY b,
   fun b _ => .nopZpXF4 b,
   fun b _ => .sbcZpX b,
   fun b _ => .incZpX b,
   fun b _ => .iscZpX b,
   fun _ _ => .sed,
   fun l h => .sbcAbsY (cat h l),
   fun _ _ => .nopFA,
   fun l h => .iscAbsY (cat h l),
   fun l h => .nopAbsXFC (cat h l),
   fun l h => .sbcAbsX (cat h l),
   fun l h => .incAbsX (cat h l),
   fun l h => .iscAbsX (cat h l)]

/-- The flat lookup from opcode byte to instruction (R104). -/
def decodeTable : List (Byte → Byte → Instr) :=
  decodeRows0 ++ decodeRows1 ++ decodeRows2 ++ decodeRows3
  ++ decodeRows4 ++ decodeRows5 ++ decodeRows6 ++ decodeRows7
  ++ decodeRows8 ++ decodeRows9 ++ decodeRowsA ++ decodeRowsB
  ++ decodeRowsC ++ decodeRowsD ++ decodeRowsE ++ decodeRowsF

/-- The instruction of an opcode byte and the two bytes after it, of which an instruction uses as many as
its mode has (R100). Total: every opcode is defined (R108); the last argument of `getD` is never
reached. -/
def decodeOp (op b1 b2 : Byte) : Instr := (decodeTable.getD op.toNat fun _ _ => .brk) b1 b2

/-- How many bytes an operand takes from the instruction stream before execution (R101, R103). -/
def Operand.size : Operand → Nat
  | .implied | .accumulator => 0
  | .immediate _ | .targetLow _ | .offset _ => 1
  | .mem (.zp _) | .mem (.zpX _) | .mem (.zpY _) | .mem (.indX _) | .mem (.indY _) => 1
  | .mem (.abs _) | .mem (.absX _) | .mem (.absY _) | .target _ | .pointer _ => 2

/-- How many operand bytes are fetched for an opcode: the opcode alone fixes it (R100). -/
def operandCount (op : Byte) : Nat := (decodeOp op 0 0).operand.size

/-- Why a byte list holds no instruction. -/
inductive DecodeError where
  /-- There is no opcode byte. -/
  | noBytes
  /-- The operand bytes of this opcode are missing. -/
  | truncated (opcode : Byte)
deriving DecidableEq, Repr

/-- Decode the instruction at the head of a byte list and give the rest of the list. -/
def decode : List Byte → Except DecodeError (Instr × List Byte)
  | [] => .error .noBytes
  | op :: rest =>
    match operandCount op, rest with
    | 0, rest => .ok (decodeOp op 0 0, rest)
    | 1, b1 :: rest => .ok (decodeOp op b1 0, rest)
    | 2, b1 :: b2 :: rest => .ok (decodeOp op b1 b2, rest)
    | _, _ => .error (.truncated op)

/-- The three bytes of an instruction as `opcode_table.json` numbers its bits, those above `nbits`
zero. -/
def tableBytes (nbits w : Nat) : Byte × Byte × Byte :=
  let w := w % 2 ^ nbits
  (byteOfNat w 0, byteOfNat w 1, byteOfNat w 2)

/-- The instruction the decoder reads from a row's word. -/
def decodeTableWord (nbits w : Nat) : Option Instr :=
  let (b0, b1, b2) := tableBytes nbits w
  match decode [b0, b1, b2] with
  | .ok (i, _) => some i
  | .error _ => none

/-! ## Encoding -/

/-- The operand bytes of a memory operand, low byte first (R101, R103). -/
def MemOperand.encode : MemOperand → List Byte
  | .zp z | .zpX z | .zpY z | .indX z | .indY z => [z]
  | .abs addr | .absX addr | .absY addr => [lo addr, hi addr]

/-- The operand bytes, in the order they are fetched (R101, R103). -/
def Operand.encode : Operand → List Byte
  | .implied | .accumulator => []
  | .immediate imm => [imm]
  | .mem m => m.encode
  | .target addr => [lo addr, hi addr]
  | .targetLow l => [l]
  | .pointer ptr => [lo ptr, hi ptr]
  | .offset off => [off]

/-- The bytes of an instruction: the opcode, then the operand bytes (R100). JSR's third byte, which
execution reads, and BRK's padding byte are not among them (log entry 10). -/
def encode (i : Instr) : List Byte := i.opcode :: i.operand.encode

end Sys2Proof
end

