-- ==== Sys2Proof/Machine/State.lean ====
section
/-! DEFINITION. The state of the core and of the bus controller, as plain data; the reasons a step or a
construction can stop; and the state right after reset. -/

namespace Sys2Proof.Machine

/-- The stored flags of the status register `P` (R26). B and U are positions of the byte image and
are not stored (R31, R32). -/
structure Flags where
  c : Bool
  z : Bool
  i : Bool
  d : Bool
  v : Bool
  n : Bool
deriving DecidableEq, Repr

/-- The interrupt inputs as the core holds them (R39, R40, R41). -/
structure Lines where
  /-- `nmi_line`: the level last given to `set_nmi` (R39). -/
  nmiLine      : Bool
  /-- `nmi_pending`: the edge latch (R39, R403). -/
  nmiPending   : Bool
  /-- `irq_line`: the level last given to `set_irq` (R40). -/
  irqLine      : Bool
  /-- `reset_pending`: the RESET request (R41, R405). -/
  resetPending : Bool
deriving DecidableEq, Repr

/-- A call of the environment on the interrupt inputs (R45, R421). -/
inductive Signal where
  | setNmi (level : Bool)
  | setIrq (level : Bool)
  | assertReset
deriving DecidableEq, Repr

/-- A bus access is a read or a write (R61). -/
inductive AccessKind where
  | read
  | write
deriving DecidableEq, Repr

/-- One bus access as the tick reports it: `TICK(kind, addr, v)` (R86, R147). -/
structure BusAccess where
  kind : AccessKind
  addr : Word
  data : Byte
deriving DecidableEq, Repr

/-- The backing stores as one list of (cell, byte) pairs in canonical form (`Memory.wf`): RAM byte `i`
is cell `i`, PRG-RAM byte `i` is cell $6000 + i, PRG-ROM byte `i` is cell $8000 + i (log entry 1). -/
abbrev Memory := List Host.Cell

/-- Everything the spec gives the machine, and the environment's scripts. -/
structure State where
  /-- Accumulator (R21). -/
  a  : Byte
  /-- Index register X (R22). -/
  x  : Byte
  /-- Index register Y (R23). -/
  y  : Byte
  /-- Stack pointer `S` (R24). -/
  sp : Byte
  /-- Program counter (R25). -/
  pc : Word
  /-- Status register (R26). -/
  p  : Flags
  /-- The halted state (R38, R414). -/
  halted : Bool
  /-- The interrupt inputs (R39 to R41). -/
  lines : Lines
  /-- `cycles_total` (R42). -/
  cyclesTotal : Nat
  /-- The count the last `step()` returned (R45, R401). -/
  cycles : Nat
  /-- The accesses of the step in progress, or between steps of the last step, oldest first (R147). -/
  trace : List BusAccess
  /-- `bus_latch` (R43, R70). -/
  busLatch : Byte
  /-- Internal RAM, PRG-RAM and PRG-ROM (R63, R67, R68). -/
  mem : Memory
  /-- `PRG_ROM_SIZE` (R68). -/
  prgRom : PrgRomSize
  /-- `PRG_RAM_SIZE` (R67). -/
  prgRam : PrgRamSize
  /-- The model's own: the answers of the environment's read hooks, next first (R71, log entry 6). -/
  hookReads : List Byte
  /-- The model's own: how many hook reads there have been, the index of the free value that answers a
  hook read when `hookReads` is empty (log entry 6). -/
  hookCount : Nat
  /-- The model's own: for each coming access, the calls the environment makes from its hook and its
  tick (R86, R421, log entry 7). An empty list stands for accesses without calls. -/
  ticks : List (List Signal)
deriving DecidableEq, Repr

/-- A machine fault. There is none: "A model needs no fault outcome for any instruction" (R400). -/
inductive Fault where
deriving DecidableEq, Repr

/-- Why an operation is refused. -/
inductive Refusal where
  /-- An instruction without a meaning yet; raised by an arm of `exec` only. Safe. -/
  | notModelled (mnemonic : String)
  /-- The cartridge configuration fails the check of R72; raised by `construct` only, so that no machine
  is constructed. Safe: it is the spec's own refusal. -/
  | invalidConfiguration
deriving DecidableEq, Repr

/-- The machine right after reset: construction and the power-on reset sequence (R46, R47, R450, R451),
for all power-up parameters zero and a blank 32 KiB cartridge without PRG-RAM (log entries 1 to 3), and
an environment that has made no call (log entries 6 and 7). -/
def State.reset : State where
  a  := 0x00
  x  := 0x00
  y  := 0x00
  sp := 0xFD
  pc := 0x0000
  p  := { c := false, z := false, i := true, d := false, v := false, n := false }
  halted := false
  lines := { nmiLine := false, nmiPending := false, irqLine := false, resetPending := false }
  cyclesTotal := 7
  cycles := 7
  trace :=
    [⟨.read, 0x0000, 0x00⟩, ⟨.read, 0x0000, 0x00⟩, ⟨.read, 0x0100, 0x00⟩, ⟨.read, 0x01FF, 0x00⟩,
     ⟨.read, 0x01FE, 0x00⟩, ⟨.read, 0xFFFC, 0x00⟩, ⟨.read, 0xFFFD, 0x00⟩]
  busLatch := 0x00
  mem := []
  prgRom := .k32
  prgRam := .absent
  hookReads := []
  hookCount := 0
  ticks := []

end Sys2Proof.Machine
end

