-- ==== Sys2Proof/Machine/Flags.lean ====
section
/-! DEFINITION. Every flag computation of the spec and the byte images of the status register. -/

namespace Sys2Proof.Machine

/-- `NZ(v)` (R10, R28, R34). -/
def Flags.nz (p : Flags) (v : Byte) : Flags :=
  { p with z := decide (v = 0), n := v.getLsbD 7 }

/-- `P.C <- b` (R27). -/
def Flags.carry (p : Flags) (b : Bool) : Flags := { p with c := b }

/-- A flag's bit at its position in the byte image. -/
def flagBit (b : Bool) (position : Nat) : Byte := if b then 1#8 <<< position else 0

/-- `Pbyte()` (R35): U reads as 1, B as 0. -/
def Flags.pbyte (p : Flags) : Byte :=
  flagBit p.n 7 ||| flagBit p.v 6 ||| flagBit true 5 ||| flagBit false 4 ||| flagBit p.d 3
    ||| flagBit p.i 2 ||| flagBit p.z 1 ||| flagBit p.c 0

/-- `PushImage(brk)` (R37). -/
def Flags.pushImage (p : Flags) (brk : Bool) : Byte := p.pbyte ||| flagBit brk 4

/-- `SetP(b)` (R36): bits 5 and 4 are ignored. -/
def Flags.ofByte (b : Byte) : Flags where
  n := b.getLsbD 7
  v := b.getLsbD 6
  d := b.getLsbD 3
  i := b.getLsbD 2
  z := b.getLsbD 1
  c := b.getLsbD 0

/-- The exact sum of `AddCarry`, 0 to 511 (R220). -/
def addSum (a b : Byte) (c : Bool) : Nat := a.toNat + b.toNat + c.toNat

/-- The result of `AddCarry`, `s mod 256` (R220). -/
def addResult (a b : Byte) (c : Bool) : Byte := BitVec.ofNat 8 (addSum a b c)

/-- The overflow of `AddCarry`: the operands agree in sign and the result differs (R220, R33). -/
def addOverflow (a b r : Byte) : Bool := decide (((a ^^^ r) &&& (b ^^^ r)) &&& 0x80#8 ≠ 0)

/-- The flags `AddCarry` writes (R220). -/
def Flags.addCarry (p : Flags) (a b : Byte) (c : Bool) : Flags :=
  { p with c := decide (256 ≤ addSum a b c), v := addOverflow a b (addResult a b c) }

/-- `Compare(reg, m)` (R221). -/
def Flags.compare (p : Flags) (reg m : Byte) : Flags :=
  { p with c := decide (m.toNat ≤ reg.toNat), z := decide (reg = m), n := (reg - m).getLsbD 7 }

/-- The result of `ShiftLeft(v)`; the bit shifted out is `v[7]` (R222). -/
def shiftLeft (v : Byte) : Byte := v <<< 1

/-- The result of `ShiftRight(v)`; the bit shifted out is `v[0]` (R222). -/
def shiftRight (v : Byte) : Byte := v >>> 1

/-- The result of `RotateLeft(v)` for the old carry `c`; the bit shifted out is `v[7]` (R222). -/
def rotateLeft (c : Bool) (v : Byte) : Byte := (v <<< 1) ||| flagBit c 0

/-- The result of `RotateRight(v)` for the old carry `c`; the bit shifted out is `v[0]` (R222). -/
def rotateRight (c : Bool) (v : Byte) : Byte := (v >>> 1) ||| flagBit c 7

/-- The flags of BIT (R238). -/
def Flags.bit (p : Flags) (a m : Byte) : Flags :=
  { p with z := decide (a &&& m = 0), n := m.getLsbD 7, v := m.getLsbD 6 }

/-- The flags of ARR for its result `r` (R362). -/
def Flags.arr (p : Flags) (r : Byte) : Flags :=
  { p.nz r with c := r.getLsbD 6, v := (r.getLsbD 6).xor (r.getLsbD 5) }

end Sys2Proof.Machine
end

