-- ==== Sys2Proof/Machine/Memory.lean ====
section
/-! DEFINITION. The backing stores as a canonical list of cells, and the region table of the bus
controller (R62). -/

namespace Sys2Proof.Machine

/-- What a cell that is not listed reads as (log entry 1: DESIGN CHOICE). -/
def Memory.unlisted (_ : Nat) : Byte := 0x00

/-- The byte of a cell. -/
def Memory.read : Memory → Nat → Byte
  | [], k => Memory.unlisted k
  | (j, w) :: m, k => if j = k then w else Memory.read m k

/-- Store a byte in a cell, keeping the canonical form. -/
def Memory.write : Memory → Nat → Byte → Memory
  | [], k, v => if v = Memory.unlisted k then [] else [(k, v)]
  | (j, w) :: m, k, v =>
    if k < j then (if v = Memory.unlisted k then (j, w) :: m else (k, v) :: (j, w) :: m)
    else if k = j then (if v = Memory.unlisted k then m else (k, v) :: m)
    else (j, w) :: Memory.write m k v

/-- The canonical form of a list whose first address may be no lower than `low`. -/
def Memory.wfFrom : Nat → Memory → Bool
  | _, [] => true
  | low, (j, w) :: m => decide (low ≤ j) && (decide (w ≠ Memory.unlisted j) && Memory.wfFrom (j + 1) m)

/-- The canonical form: addresses strictly rising, no entry equal to what an unlisted cell reads as. -/
def Memory.wf (m : Memory) : Bool := Memory.wfFrom 0 m

/-- The cells of a byte array placed at `base`, written over `m`. -/
def Memory.load (m : Memory) (base : Nat) (bytes : List (Nat × Byte)) : Memory :=
  bytes.foldl (fun m b => Memory.write m (base + b.1) b.2) m

/-- `PRG_ROM_SIZE` in bytes (R68). -/
def romBytes : PrgRomSize → Nat
  | .k16 => 16384
  | .k32 => 32768

/-- `PRG_RAM_SIZE` in bytes (R67). -/
def ramBytes : PrgRamSize → Nat
  | .absent => 0
  | .k2 => 2048
  | .k4 => 4096
  | .k8 => 8192

/-- The owner of an address and the index inside it (the columns region and canonical index of R62). -/
inductive Region where
  | ram (index : Nat)
  | ppu (register : Nat)
  | apuIo (register : Nat)
  | unmapped
  | prgRam (index : Nat)
  | prgRom (index : Nat)
deriving DecidableEq, Repr

/-- `region_dispatcher` and `mirroring_logic`: the region table of R62 (D6). -/
def regionOf (rom : PrgRomSize) (ram : PrgRamSize) (addr : Word) : Region :=
  let n := addr.toNat
  if n < 0x2000 then .ram (n % 0x0800)
  else if n < 0x4000 then .ppu (n % 8)
  else if n < 0x4018 then .apuIo (n - 0x4000)
  else if n < 0x6000 then .unmapped
  else if n < 0x8000 then
    if ram = .absent then .unmapped else .prgRam ((n - 0x6000) % ramBytes ram)
  else .prgRom ((n - 0x8000) % romBytes rom)

/-- The cell of `mem` that backs a region, if storage backs it. -/
def Region.cell : Region → Option Nat
  | .ram i => some i
  | .prgRam i => some (0x6000 + i)
  | .prgRom i => some (0x8000 + i)
  | .ppu _ | .apuIo _ | .unmapped => none

/-- The cell a write stores to: PRG-ROM takes no write (R68). -/
def Region.writableCell : Region → Option Nat
  | .ram i => some i
  | .prgRam i => some (0x6000 + i)
  | .prgRom _ | .ppu _ | .apuIo _ | .unmapped => none

/-- The register window of a region and the register index its hook is given (R64, R65). -/
def Region.hook : Region → Option (Window × Nat)
  | .ppu r => some (.ppu, r)
  | .apuIo r => some (.apuIo, r)
  | .ram _ | .unmapped | .prgRam _ | .prgRom _ => none

/-- The cells that exist for a configuration (R63, R67, R68). -/
def cellExists (rom : PrgRomSize) (ram : PrgRamSize) (k : Nat) : Bool :=
  decide (k < 0x0800) || (decide (0x6000 ≤ k) && decide (k < 0x6000 + ramBytes ram))
    || (decide (0x8000 ≤ k) && decide (k < 0x8000 + romBytes rom))

end Sys2Proof.Machine
end

