-- ==== Sys2Proof/Machine/Ops.lean ====
section
/-! DEFINITION. The named operations over the bus, the stack and the interrupt inputs; taking an
interrupt, the reset sequence, the boundary of a step, construction and the driver's interface.

An operation that returns a byte is two definitions: `peek…` is the byte it returns and the other is the
state after it. -/

namespace Sys2Proof.Machine

/-! ## Interrupt inputs -/

/-- `set_nmi(level)`: a false-to-true change latches an edge (R403). -/
def Lines.setNmi (l : Lines) (level : Bool) : Lines :=
  { l with nmiPending := l.nmiPending || (level && !l.nmiLine), nmiLine := level }

/-- `set_irq(level)` (R404). -/
def Lines.setIrq (l : Lines) (level : Bool) : Lines := { l with irqLine := level }

/-- `assert_reset()` (R405). -/
def Lines.assertReset (l : Lines) : Lines := { l with resetPending := true }

/-- A call of the environment takes effect at once (R421). -/
def Lines.signal (l : Lines) : Signal → Lines
  | .setNmi level => l.setNmi level
  | .setIrq level => l.setIrq level
  | .assertReset => l.assertReset

/-- The calls of one access, in order (R421). -/
def Lines.signals (l : Lines) (calls : List Signal) : Lines := calls.foldl Lines.signal l

/-! ## Registers -/

/-- `PC <- w` (R25). -/
def State.setPc (s : State) (w : Word) : State := { s with pc := w }

/-- `S <- v` (R24). -/
def State.setSp (s : State) (v : Byte) : State := { s with sp := v }

/-- `P <- p` (R26). -/
def State.setP (s : State) (p : Flags) : State := { s with p := p }

/-! ## Bus cycles -/

/-- The owner of an address in this machine (R62). -/
def State.region (s : State) (addr : Word) : Region := regionOf s.prgRom s.prgRam addr

/-- The byte storage holds at an address; `none` where no storage backs it. Looking does nothing. -/
def State.stored (s : State) (addr : Word) : Option Byte := (s.region addr).cell.map (Memory.read s.mem)

/-- What a read hook answers now: the script's next answer, else a free value (R71). -/
def State.hookAnswer (s : State) (w : Window) (register : Nat) : Byte :=
  s.hookReads.headD (Config.hookRead w register s.busLatch s.hookCount)

/-- The byte a bus read at `addr` returns: storage (R63, R67, R68), a hook's answer (R64, R65), or the
open-bus latch (R66, R69). -/
def State.peek (s : State) (addr : Word) : Byte :=
  match (s.region addr).hook with
  | some (w, r) => s.hookAnswer w r
  | none => (s.stored addr).getD s.busLatch

/-- One bus read cycle: the hook is used up where the address is a window, the latch takes the byte
(R70), the access is recorded (R147) and its tick runs (R86). -/
def State.read (s : State) (addr : Word) : State :=
  { s with
    busLatch := s.peek addr
    hookReads := if (s.region addr).hook.isSome then s.hookReads.tail else s.hookReads
    hookCount := if (s.region addr).hook.isSome then s.hookCount + 1 else s.hookCount
    trace := s.trace ++ [⟨.read, addr, s.peek addr⟩]
    lines := s.lines.signals (s.ticks.headD [])
    ticks := s.ticks.tail }

/-- One bus write cycle: RAM and PRG-RAM store the byte (R63, R67), ROM and unmapped addresses do not
(R66, R68), a window's write hook is called, which the recorded access is the event of (R64, R65, R71);
the latch takes the byte in every case (R70); then the tick (R86). -/
def State.write (s : State) (addr : Word) (v : Byte) : State :=
  { s with
    mem := match (s.region addr).writableCell with
      | some k => Memory.write s.mem k v
      | none => s.mem
    busLatch := v
    trace := s.trace ++ [⟨.write, addr, v⟩]
    lines := s.lines.signals (s.ticks.headD [])
    ticks := s.ticks.tail }

/-- One hook call of the environment: window, register index, kind and byte (R64, R65, R71). -/
structure HookCall where
  window   : Window
  register : Nat
  kind     : AccessKind
  data     : Byte
deriving DecidableEq, Repr

/-- The hook calls among the accesses of the step, in order (R71, R81, R417). -/
def State.hookCalls (s : State) : List HookCall :=
  s.trace.filterMap fun e => (s.region e.addr).hook.map fun wr => ⟨wr.1, wr.2, e.kind, e.data⟩

/-- The byte of `Fetch()`. -/
def State.peekFetch (s : State) : Byte := s.peek s.pc

/-- `Fetch()`: read at PC, then advance PC by one modulo 65536 (R11, R25). -/
def State.fetch (s : State) : State := (s.read s.pc).setPc (s.pc + 1)

/-- The word of `Read16(addr)`, low byte first (R74). -/
def State.peek16 (s : State) (addr : Word) : Word := cat ((s.read addr).peek (addr + 1)) (s.peek addr)

/-- `Read16(addr)` (R74). -/
def State.read16 (s : State) (addr : Word) : State := (s.read addr).read (addr + 1)

/-- The word of `Read16Wrap(addr)`: the high byte comes from the same page (R75). -/
def State.peek16Wrap (s : State) (addr : Word) : Word :=
  cat ((s.read addr).peek (addInPage addr 1)) (s.peek addr)

/-- `Read16Wrap(addr)` (R75). -/
def State.read16Wrap (s : State) (addr : Word) : State := (s.read addr).read (addInPage addr 1)

/-! ## Stack -/

/-- `Push(v)` (R78). -/
def State.push (s : State) (v : Byte) : State := (s.write (stackPage s.sp) v).setSp (s.sp - 1)

/-- The byte of `Pull()` (R78). -/
def State.peekPull (s : State) : Byte := s.peek (stackPage (s.sp + 1))

/-- `Pull()` (R78). -/
def State.pull (s : State) : State := (s.read (stackPage (s.sp + 1))).setSp (s.sp + 1)

/-! ## Interrupt entry and return -/

/-- The kinds of entry sequence (R407). -/
inductive InterruptKind where
  | nmi
  | irq
  | brk
deriving DecidableEq, Repr

/-- NMI vector (R79, R408). -/
def nmiVector : Word := 0xFFFA
/-- RESET vector (R79, R408). -/
def resetVector : Word := 0xFFFC
/-- IRQ/BRK vector (R79, R408). -/
def irqVector : Word := 0xFFFE

/-- `nmi_pending <- false` (R39). -/
def State.consumeNmi (s : State) : State := { s with lines := { s.lines with nmiPending := false } }

/-- The vector of `SelectVector(kind)`: a latched NMI edge hijacks a BRK or an IRQ (R409). -/
def State.peekVector (s : State) : InterruptKind → Word
  | .nmi => nmiVector
  | .irq | .brk => if s.lines.nmiPending then nmiVector else irqVector

/-- `SelectVector(kind)`: a hijack consumes the latch (R409). -/
def State.selectVector (s : State) : InterruptKind → State
  | .nmi => s
  | .irq | .brk => s.consumeNmi

/-- Cycles 1 and 2 of an entry: an NMI consumes its latch; NMI and IRQ read at PC twice; BRK has made its
two fetches already (R407). -/
def State.beginEntry (s : State) : InterruptKind → State
  | .nmi => (s.consumeNmi.read s.pc).read s.pc
  | .irq => (s.read s.pc).read s.pc
  | .brk => s

/-- Load PC from a vector by two ordinary reads (R407, R408). -/
def State.jumpVector (s : State) (vec : Word) : State := (s.read16 vec).setPc (s.peek16 vec)

/-- `P.I <- 1` (R29). -/
def State.maskIrq (s : State) : State := s.setP { s.p with i := true }

/-- `InterruptSequence(kind)` (R407): PC and the status image go to the stack, B set only for BRK; I is
set; PC comes from the vector chosen after the fourth access. -/
def State.interruptSequence (s : State) (kind : InterruptKind) : State :=
  let s := s.beginEntry kind
  let s := (s.push (hi s.pc)).push (lo s.pc)
  let vec := s.peekVector kind
  let s := s.selectVector kind
  let s := (s.push (s.p.pushImage (decide (kind = .brk)))).maskIrq
  s.jumpVector vec

/-- The return from an interrupt: P, then PC, come back from the stack (R313, R411). -/
def State.returnFromInterrupt (s : State) : State :=
  let s := (s.read s.pc).read (stackPage s.sp)
  let s := s.pull.setP (Flags.ofByte s.peekPull)
  let l := s.peekPull
  let s := s.pull
  let h := s.peekPull
  s.pull.setPc (cat h l)

/-! ## Reset -/

/-- What the reset sequence sets between its fifth and sixth access (R450, R47). -/
def State.resetRegisters (s : State) : State :=
  { s with
    sp := 0xFD
    p := { s.p with i := true }
    halted := false
    lines := { s.lines with nmiPending := false, resetPending := false } }

/-- `ResetSequence()` (R450): two reads at PC, three suppressed pushes (reads), the registers, the
vector. -/
def State.resetSequence (s : State) : State :=
  let s := (s.read s.pc).read s.pc
  let s := ((s.read (stackPage s.sp)).read (stackPage (s.sp - 1))).read (stackPage (s.sp - 2))
  s.resetRegisters.jumpVector resetVector

/-! ## The boundary of a step -/

/-- What a step performs (R401). -/
inductive Boundary where
  | reset
  | halted
  | nmi
  | irq
  | instruction
deriving DecidableEq, Repr

/-- The tests at the instruction boundary, in the order of R401 (R406). -/
def State.boundary (s : State) : Boundary :=
  if s.lines.resetPending then .reset
  else if s.halted then .halted
  else if s.lines.nmiPending then .nmi
  else if s.lines.irqLine && !s.p.i then .irq
  else .instruction

/-- A step starts a new access list (R147). -/
def State.beginStep (s : State) : State := { s with trace := [] }

/-- A step that made accesses returns their number and adds it to the total (R147, R401, R464). -/
def State.finishStep (s : State) : State :=
  { s with cycles := s.trace.length, cyclesTotal := s.cyclesTotal + s.trace.length }

/-- The halted step: no access, one cycle (R414). -/
def State.haltedStep (s : State) : State := { s with cycles := 1, cyclesTotal := s.cyclesTotal + 1 }

/-! ## Fetching an instruction -/

/-- The `n` operand bytes at PC, in the order they are fetched (R100, R103). -/
def State.peekBytes : Nat → State → List Byte
  | 0, _ => []
  | n + 1, s => s.peekFetch :: State.peekBytes n s.fetch

/-- `n` times `Fetch()`. -/
def State.fetchBytes : Nat → State → State
  | 0, s => s
  | n + 1, s => State.fetchBytes n s.fetch

/-- The instruction at PC: the opcode byte fixes how many operand bytes follow (R100). -/
def State.peekInstr (s : State) : Instr :=
  let bytes := State.peekBytes (operandCount s.peekFetch) s.fetch
  decodeOp s.peekFetch (bytes.getD 0 0) (bytes.getD 1 0)

/-- Fetch the instruction at PC: its opcode, then its operand bytes (R25, R83, R401). -/
def State.fetchInstr (s : State) : State := State.fetchBytes (operandCount s.peekFetch) s.fetch

/-! ## Construction and the driver's interface -/

/-- The declared sizes as the configuration of the region table (R72, D7). -/
def romSizeOf : Option Nat → PrgRomSize
  | some 16384 => .k16
  | _ => .k32

/-- See `romSizeOf`. -/
def ramSizeOf (n : Nat) : PrgRamSize :=
  if n = 2048 then .k2 else if n = 4096 then .k4 else if n = 8192 then .k8 else .absent

/-- The state at power-up, before the power-on reset sequence (R46): PC = $0000, S = $00, latch 0, no
line asserted. I is not given there (the sequence sets it); the model has it clear (log entry 2). -/
def powerUpState (c : Cartridge) (u : PowerUp) (hookReads : List Byte) (ticks : List (List Signal)) : State where
  a := u.a
  x := u.x
  y := u.y
  sp := 0x00
  pc := 0x0000
  p := { c := u.c, z := u.z, i := false, d := u.d, v := u.v, n := u.n }
  halted := false
  lines := { nmiLine := false, nmiPending := false, irqLine := false, resetPending := false }
  cyclesTotal := 0
  cycles := 0
  trace := []
  busLatch := 0x00
  mem := Memory.load (Memory.load (Memory.load [] 0 (u.ramInit.filter fun b => decide (b.1 < 0x0800)))
    0x6000 c.prgRamInit) 0x8000 c.prgRom
  prgRom := romSizeOf c.prgRomSize
  prgRam := ramSizeOf c.prgRamSize
  hookReads := hookReads
  hookCount := 0
  ticks := ticks

/-- Power-on: check the configuration and refuse on error, set the power-up state, run the reset
sequence once (R72, R451). -/
def construct (c : Cartridge) (u : PowerUp) (hookReads : List Byte) (ticks : List (List Signal)) :
    Host.Outcome State Fault Refusal :=
  if c.wellFormed then .next (powerUpState c u hookReads ticks).resetSequence.finishStep
  else .refused .invalidConfiguration

/-- `set_nmi(level)` called by the driver between steps (R45, R403). -/
def State.setNmi (s : State) (level : Bool) : State := { s with lines := s.lines.setNmi level }

/-- `set_irq(level)` called by the driver between steps (R45, R404). -/
def State.setIrq (s : State) (level : Bool) : State := { s with lines := s.lines.setIrq level }

/-- `assert_reset()` called by the driver between steps (R45, R405). -/
def State.assertReset (s : State) : State := { s with lines := s.lines.assertReset }

/-- What `query()` returns (R45, R418, D24). -/
structure Query where
  a : Byte
  x : Byte
  y : Byte
  s : Byte
  pc : Word
  pbyte : Byte
  halted : Bool
  cyclesTotal : Nat
deriving DecidableEq, Repr

/-- `query()`: read-only, no bus access (R45). -/
def State.query (s : State) : Query :=
  ⟨s.a, s.x, s.y, s.sp, s.pc, s.p.pbyte, s.halted, s.cyclesTotal⟩

/-! ## Placing an instruction where the next step fetches it -/

/-- Put a byte into the storage that backs an address, ROM included: what a loader does, not a bus
write. -/
def State.place (s : State) (addr : Word) (v : Byte) : State :=
  match (s.region addr).cell with
  | some k => { s with mem := Memory.write s.mem k v }
  | none => s

/-- Storage backs the three bytes from an address on. -/
def State.backed3 (s : State) (addr : Word) : Bool :=
  (s.region addr).cell.isSome && (s.region (addr + 1)).cell.isSome && (s.region (addr + 2)).cell.isSome

/-- Nothing but an instruction is due: no request, not halted, no latched edge, no unmasked IRQ; and PC
is where storage can hold three bytes, else $0000 (log entry 11). -/
def State.readyToFetch (s : State) : State :=
  { s with
    pc := if s.backed3 s.pc then s.pc else 0x0000
    halted := false
    lines := { s.lines with
      nmiPending := false, resetPending := false, irqLine := s.lines.irqLine && s.p.i } }

/-- The three bytes of an instruction placed where the next step fetches them. -/
def State.placeInstr (s : State) (b0 b1 b2 : Byte) : State :=
  let s := s.readyToFetch
  ((s.place s.pc b0).place (s.pc + 1) b1).place (s.pc + 2) b2

end Sys2Proof.Machine
end

