-- ==== Sys2Proof/Machine/Operands.lean ====
section
/-! DEFINITION. The addressing-mode resolver: effective addresses, the accesses that compute them and the
access tails of the classes read, write and read_modify_write (R130 to R146). -/

namespace Sys2Proof.Machine

/-- What the resolver computes for a memory operand (R146). For a mode that is not indexed `base` and `u`
are `ea`, so that nothing is crossed. -/
structure Resolved where
  /-- The effective address. -/
  ea : Word
  /-- The base of the page-crossing test (R142). -/
  base : Word
  /-- The unfixed address `U` (R138, R139). -/
  u : Word
  /-- The access tail takes its indexed form (R143 to R145). -/
  indexed : Bool
deriving DecidableEq, Repr

/-- A mode without an unfixed address. -/
def Resolved.direct (ea : Word) : Resolved := ⟨ea, ea, ea, false⟩

/-- `EA = base +16 idx`, `U = {hi(base), lo(base) +8 idx}` (R138, R139). -/
def Resolved.ofIndex (base : Word) (idx : Byte) : Resolved :=
  ⟨base + idx.setWidth 16, base, addInPage base idx, true⟩

/-- `crossed` (R146). -/
def Resolved.crossed (r : Resolved) : Bool := r.indexed && pagesDiffer r.ea r.base

/-- The effective address of each mode, on the state after the instruction's bytes are fetched
(R134 to R139). -/
def resolve (m : MemOperand) (s : State) : Resolved :=
  match m with
  | .zp z => .direct (zeroPage z)
  | .zpX z => .direct (zeroPage (z + s.x))
  | .zpY z => .direct (zeroPage (z + s.y))
  | .abs addr => .direct addr
  | .absX addr => .ofIndex addr s.x
  | .absY addr => .ofIndex addr s.y
  | .indX z => .direct ((s.read (zeroPage z)).peek16Wrap (zeroPage (z + s.x)))
  | .indY z => .ofIndex (s.peek16Wrap (zeroPage z)) s.y

/-- The state after the accesses that compute the effective address: the dummy read of the zero-page
indexed modes, the pointer reads of the indirect modes (R134 to R139). -/
def resolveState (m : MemOperand) (s : State) : State :=
  match m with
  | .zp _ | .abs _ | .absX _ | .absY _ => s
  | .zpX z | .zpY z => s.read (zeroPage z)
  | .indX z => (s.read (zeroPage z)).read16Wrap (zeroPage (z + s.x))
  | .indY z => s.read16Wrap (zeroPage z)

/-- The dummy read of `U` of the write and read-modify-write tails (R144, R145). -/
def tailDummy (m : MemOperand) (s : State) : State :=
  if (resolve m s).indexed then (resolveState m s).read (resolve m s).u else resolveState m s

/-- The state in which the read tail makes its last read: after the discarded read of `U` where the index
crosses a page (R143). -/
def readTail (m : MemOperand) (s : State) : State :=
  if (resolve m s).crossed then (resolveState m s).read (resolve m s).u else resolveState m s

/-- `M` of the read class (R143). -/
def loadValue (m : MemOperand) (s : State) : Byte := (readTail m s).peek (resolve m s).ea

/-- The state after the read class's accesses (R143). -/
def loadState (m : MemOperand) (s : State) : State := (readTail m s).read (resolve m s).ea

/-- A read-class instruction: the effect is given `M` (R130, R143). -/
def readClass (m : MemOperand) (effect : Byte → State → State) (s : State) : State :=
  effect (loadValue m s) (loadState m s)

/-- A write-class instruction stores `v` (R130, R144). -/
def writeClass (m : MemOperand) (v : Byte) (s : State) : State := (tailDummy m s).write (resolve m s).ea v

/-- `M` of the read-modify-write class (R145). -/
def modifyValue (m : MemOperand) (s : State) : Byte := (tailDummy m s).peek (resolve m s).ea

/-- The state after the read-modify-write tail: the operand read, the write of the unmodified value and
the write of the result (R145). -/
def modifyState (m : MemOperand) (r : Byte) (s : State) : State :=
  (((tailDummy m s).read (resolve m s).ea).write (resolve m s).ea (modifyValue m s)).write (resolve m s).ea r

/-- A read-modify-write instruction: `result` is computed from the carry and `M`; `effect` is given `M`
and the result `R` (R130, R145). -/
def modifyClass (m : MemOperand) (result : Bool → Byte → Byte) (effect : Byte → Byte → State → State)
    (s : State) : State :=
  let v := modifyValue m s
  let r := result s.p.c v
  effect v r (modifyState m r s)

/-- The address `SHStore` writes to (R367). -/
def unstableAddr (m : MemOperand) (v : Byte) (s : State) : Word :=
  if (resolve m s).crossed then cat v (lo (resolve m s).ea) else (resolve m s).ea

/-- The byte `SHStore(value)` writes: the value AND the base's high byte plus one (R367). -/
def unstableValue (m : MemOperand) (value : Byte) (s : State) : Byte := value &&& (hi (resolve m s).base + 1)

/-- `SHStore(value)` (R367). -/
def unstableStore (m : MemOperand) (value : Byte) (s : State) : State :=
  let v := unstableValue m value s
  (tailDummy m s).write (unstableAddr m v s) v

/-- The implied and accumulator modes: the byte after the opcode is read and discarded (R131, R132). -/
def impliedClass (effect : State → State) (s : State) : State := effect (s.read s.pc)

end Sys2Proof.Machine
end

