-- ==== Sys2Proof/Machine/LoadStore.lean ====
section
/-! DEFINITION. Loads, stores and transfers (R200 to R211). -/

namespace Sys2Proof.Machine

/-- `A <- v; NZ(A)`. -/
def State.loadA (v : Byte) (s : State) : State := { s with a := v, p := s.p.nz v }

/-- `X <- v; NZ(X)`. -/
def State.loadX (v : Byte) (s : State) : State := { s with x := v, p := s.p.nz v }

/-- `Y <- v; NZ(Y)`. -/
def State.loadY (v : Byte) (s : State) : State := { s with y := v, p := s.p.nz v }

/-- $81 STA (zp,X) (R203). -/
def execStaIndX (z : Byte) (s : State) : Host.Outcome State Fault Refusal :=
  .next (writeClass (.indX z) s.a s)

/-- $84 STY zp (R205). -/
def execStyZp (z : Byte) (s : State) : Host.Outcome State Fault Refusal := .next (writeClass (.zp z) s.y s)

/-- $85 STA zp (R203). -/
def execStaZp (z : Byte) (s : State) : Host.Outcome State Fault Refusal := .next (writeClass (.zp z) s.a s)

/-- $86 STX zp (R204). -/
def execStxZp (z : Byte) (s : State) : Host.Outcome State Fault Refusal := .next (writeClass (.zp z) s.x s)

/-- $8A TXA (R208). -/
def execTxa (s : State) : Host.Outcome State Fault Refusal :=
  .next (impliedClass (fun s => State.loadA s.x s) s)

/-- $8C STY abs (R205). -/
def execStyAbs (addr : Word) (s : State) : Host.Outcome State Fault Refusal :=
  .next (writeClass (.abs addr) s.y s)

/-- $8D STA abs (R203). -/
def execStaAbs (addr : Word) (s : State) : Host.Outcome State Fault Refusal :=
  .next (writeClass (.abs addr) s.a s)

/-- $8E STX abs (R204). -/
def execStxAbs (addr : Word) (s : State) : Host.Outcome State Fault Refusal :=
  .next (writeClass (.abs addr) s.x s)

/-- $91 STA (zp),Y (R203). -/
def execStaIndY (z : Byte) (s : State) : Host.Outcome State Fault Refusal :=
  .next (writeClass (.indY z) s.a s)

/-- $94 STY zp,X (R205). -/
def execStyZpX (z : Byte) (s : State) : Host.Outcome State Fault Refusal := .next (writeClass (.zpX z) s.y s)

/-- $95 STA zp,X (R203). -/
def execStaZpX (z : Byte) (s : State) : Host.Outcome State Fault Refusal := .next (writeClass (.zpX z) s.a s)

/-- $96 STX zp,Y (R204). -/
def execStxZpY (z : Byte) (s : State) : Host.Outcome State Fault Refusal := .next (writeClass (.zpY z) s.x s)

/-- $98 TYA (R209). -/
def execTya (s : State) : Host.Outcome State Fault Refusal :=
  .next (impliedClass (fun s => State.loadA s.y s) s)

/-- $99 STA abs,Y (R203). -/
def execStaAbsY (addr : Word) (s : State) : Host.Outcome State Fault Refusal :=
  .next (writeClass (.absY addr) s.a s)

/-- $9A TXS (R211). -/
def execTxs (s : State) : Host.Outcome State Fault Refusal := .next (impliedClass (fun s => s.setSp s.x) s)

/-- $9D STA abs,X (R203). -/
def execStaAbsX (addr : Word) (s : State) : Host.Outcome State Fault Refusal :=
  .next (writeClass (.absX addr) s.a s)

/-- $A0 LDY # (R202). -/
def execLdyImm (imm : Byte) (s : State) : Host.Outcome State Fault Refusal := .next (State.loadY imm s)

/-- $A1 LDA (zp,X) (R200). -/
def execLdaIndX (z : Byte) (s : State) : Host.Outcome State Fault Refusal :=
  .next (readClass (.indX z) State.loadA s)

/-- $A2 LDX # (R201). -/
def execLdxImm (imm : Byte) (s : State) : Host.Outcome State Fault Refusal := .next (State.loadX imm s)

/-- $A4 LDY zp (R202). -/
def execLdyZp (z : Byte) (s : State) : Host.Outcome State Fault Refusal :=
  .next (readClass (.zp z) State.loadY s)

/-- $A5 LDA zp (R200). -/
def execLdaZp (z : Byte) (s : State) : Host.Outcome State Fault Refusal :=
  .next (readClass (.zp z) State.loadA s)

/-- $A6 LDX zp (R201). -/
def execLdxZp (z : Byte) (s : State) : Host.Outcome State Fault Refusal :=
  .next (readClass (.zp z) State.loadX s)

/-- $A8 TAY (R207). -/
def execTay (s : State) : Host.Outcome State Fault Refusal :=
  .next (impliedClass (fun s => State.loadY s.a s) s)

/-- $A9 LDA # (R200). -/
def execLdaImm (imm : Byte) (s : State) : Host.Outcome State Fault Refusal := .next (State.loadA imm s)

/-- $AA TAX (R206). -/
def execTax (s : State) : Host.Outcome State Fault Refusal :=
  .next (impliedClass (fun s => State.loadX s.a s) s)

/-- $AC LDY abs (R202). -/
def execLdyAbs (addr : Word) (s : State) : Host.Outcome State Fault Refusal :=
  .next (readClass (.abs addr) State.loadY s)

/-- $AD LDA abs (R200). -/
def execLdaAbs (addr : Word) (s : State) : Host.Outcome State Fault Refusal :=
  .next (readClass (.abs addr) State.loadA s)

/-- $AE LDX abs (R201). -/
def execLdxAbs (addr : Word) (s : State) : Host.Outcome State Fault Refusal :=
  .next (readClass (.abs addr) State.loadX s)

/-- $B1 LDA (zp),Y (R200). -/
def execLdaIndY (z : Byte) (s : State) : Host.Outcome State Fault Refusal :=
  .next (readClass (.indY z) State.loadA s)

/-- $B4 LDY zp,X (R202). -/
def execLdyZpX (z : Byte) (s : State) : Host.Outcome State Fault Refusal :=
  .next (readClass (.zpX z) State.loadY s)

/-- $B5 LDA zp,X (R200). -/
def execLdaZpX (z : Byte) (s : State) : Host.Outcome State Fault Refusal :=
  .next (readClass (.zpX z) State.loadA s)

/-- $B6 LDX zp,Y (R201). -/
def execLdxZpY (z : Byte) (s : State) : Host.Outcome State Fault Refusal :=
  .next (readClass (.zpY z) State.loadX s)

/-- $B9 LDA abs,Y (R200). -/
def execLdaAbsY (addr : Word) (s : State) : Host.Outcome State Fault Refusal :=
  .next (readClass (.absY addr) State.loadA s)

/-- $BA TSX (R210). -/
def execTsx (s : State) : Host.Outcome State Fault Refusal :=
  .next (impliedClass (fun s => State.loadX s.sp s) s)

/-- $BC LDY abs,X (R202). -/
def execLdyAbsX (addr : Word) (s : State) : Host.Outcome State Fault Refusal :=
  .next (readClass (.absX addr) State.loadY s)

/-- $BD LDA abs,X (R200). -/
def execLdaAbsX (addr : Word) (s : State) : Host.Outcome State Fault Refusal :=
  .next (readClass (.absX addr) State.loadA s)

/-- $BE LDX abs,Y (R201). -/
def execLdxAbsY (addr : Word) (s : State) : Host.Outcome State Fault Refusal :=
  .next (readClass (.absY addr) State.loadX s)

end Sys2Proof.Machine
end

