-- ==== Sys2Proof/Machine/Alu.lean ====
section
/-! DEFINITION. Arithmetic, logic, compare, increment, shift (R230 to R248). -/

namespace Sys2Proof.Machine

/-- `A <- AddCarry(A, M, P.C); NZ(A)` (R230). -/
def State.adc (m : Byte) (s : State) : State :=
  let r := addResult s.a m s.p.c
  { s with a := r, p := (s.p.addCarry s.a m s.p.c).nz r }

/-- `A <- AddCarry(A, M ^ $FF, P.C); NZ(A)` (R231). -/
def State.sbc (m : Byte) (s : State) : State := State.adc (m ^^^ 0xFF) s

/-- `A <- A & M; NZ(A)` (R232). -/
def State.and (m : Byte) (s : State) : State := State.loadA (s.a &&& m) s

/-- `A <- A | M; NZ(A)` (R233). -/
def State.ora (m : Byte) (s : State) : State := State.loadA (s.a ||| m) s

/-- `A <- A ^ M; NZ(A)` (R234). -/
def State.eor (m : Byte) (s : State) : State := State.loadA (s.a ^^^ m) s

/-- `Compare(A, M)` (R235). -/
def State.cmp (m : Byte) (s : State) : State := s.setP (s.p.compare s.a m)

/-- `Compare(X, M)` (R236). -/
def State.cpx (m : Byte) (s : State) : State := s.setP (s.p.compare s.x m)

/-- `Compare(Y, M)` (R237). -/
def State.cpy (m : Byte) (s : State) : State := s.setP (s.p.compare s.y m)

/-- BIT: Z from A & M, N and V from M (R238). -/
def State.bit (m : Byte) (s : State) : State := s.setP (s.p.bit s.a m)

/-- `M +8 1`; the carry is not read (R239). -/
def increment (_ : Bool) (m : Byte) : Byte := m + 1

/-- `M -8 1`; the carry is not read (R240). -/
def decrement (_ : Bool) (m : Byte) : Byte := m - 1

/-- `NZ(R)` (R239, R240). -/
def State.flagsNZ (_ r : Byte) (s : State) : State := s.setP (s.p.nz r)

/-- The flags of a left shift or rotate of `m` into `r`: C is bit 7 of `m` (R222, R245, R247). -/
def State.outHigh (m r : Byte) (s : State) : State := { s with p := (s.p.carry (m.getLsbD 7)).nz r }

/-- The flags of a right shift or rotate of `m` into `r`: C is bit 0 of `m` (R222, R246, R248). -/
def State.outLow (m r : Byte) (s : State) : State := { s with p := (s.p.carry (m.getLsbD 0)).nz r }

/-- The accumulator form of a shift or rotate: the result goes to A, the flags are those of the memory
form (R245 to R248). -/
def State.accumulate (r : Byte) (flags : Byte → Byte → State → State) (s : State) : State :=
  { flags s.a r s with a := r }

/-- $01 ORA (zp,X) (R233). -/
def execOraIndX (z : Byte) (s : State) : Host.Outcome State Fault Refusal :=
  .next (readClass (.indX z) State.ora s)

/-- $05 ORA zp (R233). -/
def execOraZp (z : Byte) (s : State) : Host.Outcome State Fault Refusal :=
  .next (readClass (.zp z) State.ora s)

/-- $06 ASL zp (R245). -/
def execAslZp (z : Byte) (s : State) : Host.Outcome State Fault Refusal :=
  .next (modifyClass (.zp z) (fun _ => shiftLeft) State.outHigh s)

/-- $09 ORA # (R233). -/
def execOraImm (imm : Byte) (s : State) : Host.Outcome State Fault Refusal := .next (State.ora imm s)

/-- $0A ASL A (R245). -/
def execAslA (s : State) : Host.Outcome State Fault Refusal :=
  .next (impliedClass (fun s => State.accumulate (shiftLeft s.a) State.outHigh s) s)

/-- $0D ORA abs (R233). -/
def execOraAbs (addr : Word) (s : State) : Host.Outcome State Fault Refusal :=
  .next (readClass (.abs addr) State.ora s)

/-- $0E ASL abs (R245). -/
def execAslAbs (addr : Word) (s : State) : Host.Outcome State Fault Refusal :=
  .next (modifyClass (.abs addr) (fun _ => shiftLeft) State.outHigh s)

/-- $11 ORA (zp),Y (R233). -/
def execOraIndY (z : Byte) (s : State) : Host.Outcome State Fault Refusal :=
  .next (readClass (.indY z) State.ora s)

/-- $15 ORA zp,X (R233). -/
def execOraZpX (z : Byte) (s : State) : Host.Outcome State Fault Refusal :=
  .next (readClass (.zpX z) State.ora s)

/-- $16 ASL zp,X (R245). -/
def execAslZpX (z : Byte) (s : State) : Host.Outcome State Fault Refusal :=
  .next (modifyClass (.zpX z) (fun _ => shiftLeft) State.outHigh s)

/-- $19 ORA abs,Y (R233). -/
def execOraAbsY (addr : Word) (s : State) : Host.Outcome State Fault Refusal :=
  .next (readClass (.absY addr) State.ora s)

/-- $1D ORA abs,X (R233). -/
def execOraAbsX (addr : Word) (s : State) : Host.Outcome State Fault Refusal :=
  .next (readClass (.absX addr) State.ora s)

/-- $1E ASL abs,X (R245). -/
def execAslAbsX (addr : Word) (s : State) : Host.Outcome State Fault Refusal :=
  .next (modifyClass (.absX addr) (fun _ => shiftLeft) State.outHigh s)

/-- $21 AND (zp,X) (R232). -/
def execAndIndX (z : Byte) (s : State) : Host.Outcome State Fault Refusal :=
  .next (readClass (.indX z) State.and s)

/-- $24 BIT zp (R238). -/
def execBitZp (z : Byte) (s : State) : Host.Outcome State Fault Refusal :=
  .next (readClass (.zp z) State.bit s)

/-- $25 AND zp (R232). -/
def execAndZp (z : Byte) (s : State) : Host.Outcome State Fault Refusal :=
  .next (readClass (.zp z) State.and s)

/-- $26 ROL zp (R247). -/
def execRolZp (z : Byte) (s : State) : Host.Outcome State Fault Refusal :=
  .next (modifyClass (.zp z) rotateLeft State.outHigh s)

/-- $29 AND # (R232). -/
def execAndImm (imm : Byte) (s : State) : Host.Outcome State Fault Refusal := .next (State.and imm s)

/-- $2A ROL A (R247). -/
def execRolA (s : State) : Host.Outcome State Fault Refusal :=
  .next (impliedClass (fun s => State.accumulate (rotateLeft s.p.c s.a) State.outHigh s) s)

/-- $2C BIT abs (R238). -/
def execBitAbs (addr : Word) (s : State) : Host.Outcome State Fault Refusal :=
  .next (readClass (.abs addr) State.bit s)

/-- $2D AND abs (R232). -/
def execAndAbs (addr : Word) (s : State) : Host.Outcome State Fault Refusal :=
  .next (readClass (.abs addr) State.and s)

/-- $2E ROL abs (R247). -/
def execRolAbs (addr : Word) (s : State) : Host.Outcome State Fault Refusal :=
  .next (modifyClass (.abs addr) rotateLeft State.outHigh s)

/-- $31 AND (zp),Y (R232). -/
def execAndIndY (z : Byte) (s : State) : Host.Outcome State Fault Refusal :=
  .next (readClass (.indY z) State.and s)

/-- $35 AND zp,X (R232). -/
def execAndZpX (z : Byte) (s : State) : Host.Outcome State Fault Refusal :=
  .next (readClass (.zpX z) State.and s)

/-- $36 ROL zp,X (R247). -/
def execRolZpX (z : Byte) (s : State) : Host.Outcome State Fault Refusal :=
  .next (modifyClass (.zpX z) rotateLeft State.outHigh s)

/-- $39 AND abs,Y (R232). -/
def execAndAbsY (addr : Word) (s : State) : Host.Outcome State Fault Refusal :=
  .next (readClass (.absY addr) State.and s)

/-- $3D AND abs,X (R232). -/
def execAndAbsX (addr : Word) (s : State) : Host.Outcome State Fault Refusal :=
  .next (readClass (.absX addr) State.and s)

/-- $3E ROL abs,X (R247). -/
def execRolAbsX (addr : Word) (s : State) : Host.Outcome State Fault Refusal :=
  .next (modifyClass (.absX addr) rotateLeft State.outHigh s)

/-- $41 EOR (zp,X) (R234). -/
def execEorIndX (z : Byte) (s : State) : Host.Outcome State Fault Refusal :=
  .next (readClass (.indX z) State.eor s)

/-- $45 EOR zp (R234). -/
def execEorZp (z : Byte) (s : State) : Host.Outcome State Fault Refusal :=
  .next (readClass (.zp z) State.eor s)

/-- $46 LSR zp (R246). -/
def execLsrZp (z : Byte) (s : State) : Host.Outcome State Fault Refusal :=
  .next (modifyClass (.zp z) (fun _ => shiftRight) State.outLow s)

/-- $49 EOR # (R234). -/
def execEorImm (imm : Byte) (s : State) : Host.Outcome State Fault Refusal := .next (State.eor imm s)

/-- $4A LSR A (R246). -/
def execLsrA (s : State) : Host.Outcome State Fault Refusal :=
  .next (impliedClass (fun s => State.accumulate (shiftRight s.a) State.outLow s) s)

/-- $4D EOR abs (R234). -/
def execEorAbs (addr : Word) (s : State) : Host.Outcome State Fault Refusal :=
  .next (readClass (.abs addr) State.eor s)

/-- $4E LSR abs (R246). -/
def execLsrAbs (addr : Word) (s : State) : Host.Outcome State Fault Refusal :=
  .next (modifyClass (.abs addr) (fun _ => shiftRight) State.outLow s)

/-- $51 EOR (zp),Y (R234). -/
def execEorIndY (z : Byte) (s : State) : Host.Outcome State Fault Refusal :=
  .next (readClass (.indY z) State.eor s)

/-- $55 EOR zp,X (R234). -/
def execEorZpX (z : Byte) (s : State) : Host.Outcome State Fault Refusal :=
  .next (readClass (.zpX z) State.eor s)

/-- $56 LSR zp,X (R246). -/
def execLsrZpX (z : Byte) (s : State) : Host.Outcome State Fault Refusal :=
  .next (modifyClass (.zpX z) (fun _ => shiftRight) State.outLow s)

/-- $59 EOR abs,Y (R234). -/
def execEorAbsY (addr : Word) (s : State) : Host.Outcome State Fault Refusal :=
  .next (readClass (.absY addr) State.eor s)

/-- $5D EOR abs,X (R234). -/
def execEorAbsX (addr : Word) (s : State) : Host.Outcome State Fault Refusal :=
  .next (readClass (.absX addr) State.eor s)

/-- $5E LSR abs,X (R246). -/
def execLsrAbsX (addr : Word) (s : State) : Host.Outcome State Fault Refusal :=
  .next (modifyClass (.absX addr) (fun _ => shiftRight) State.outLow s)

/-- $61 ADC (zp,X) (R230). -/
def execAdcIndX (z : Byte) (s : State) : Host.Outcome State Fault Refusal :=
  .next (readClass (.indX z) State.adc s)

/-- $65 ADC zp (R230). -/
def execAdcZp (z : Byte) (s : State) : Host.Outcome State Fault Refusal :=
  .next (readClass (.zp z) State.adc s)

/-- $66 ROR zp (R248). -/
def execRorZp (z : Byte) (s : State) : Host.Outcome State Fault Refusal :=
  .next (modifyClass (.zp z) rotateRight State.outLow s)

/-- $69 ADC # (R230). -/
def execAdcImm (imm : Byte) (s : State) : Host.Outcome State Fault Refusal := .next (State.adc imm s)

/-- $6A ROR A (R248). -/
def execRorA (s : State) : Host.Outcome State Fault Refusal :=
  .next (impliedClass (fun s => State.accumulate (rotateRight s.p.c s.a) State.outLow s) s)

/-- $6D ADC abs (R230). -/
def execAdcAbs (addr : Word) (s : State) : Host.Outcome State Fault Refusal :=
  .next (readClass (.abs addr) State.adc s)

/-- $6E ROR abs (R248). -/
def execRorAbs (addr : Word) (s : State) : Host.Outcome State Fault Refusal :=
  .next (modifyClass (.abs addr) rotateRight State.outLow s)

/-- $71 ADC (zp),Y (R230). -/
def execAdcIndY (z : Byte) (s : State) : Host.Outcome State Fault Refusal :=
  .next (readClass (.indY z) State.adc s)

/-- $75 ADC zp,X (R230). -/
def execAdcZpX (z : Byte) (s : State) : Host.Outcome State Fault Refusal :=
  .next (readClass (.zpX z) State.adc s)

/-- $76 ROR zp,X (R248). -/
def execRorZpX (z : Byte) (s : State) : Host.Outcome State Fault Refusal :=
  .next (modifyClass (.zpX z) rotateRight State.outLow s)

/-- $79 ADC abs,Y (R230). -/
def execAdcAbsY (addr : Word) (s : State) : Host.Outcome State Fault Refusal :=
  .next (readClass (.absY addr) State.adc s)

/-- $7D ADC abs,X (R230). -/
def execAdcAbsX (addr : Word) (s : State) : Host.Outcome State Fault Refusal :=
  .next (readClass (.absX addr) State.adc s)

/-- $7E ROR abs,X (R248). -/
def execRorAbsX (addr : Word) (s : State) : Host.Outcome State Fault Refusal :=
  .next (modifyClass (.absX addr) rotateRight State.outLow s)

/-- $88 DEY (R244). -/
def execDey (s : State) : Host.Outcome State Fault Refusal :=
  .next (impliedClass (fun s => State.loadY (s.y - 1) s) s)

/-- $C0 CPY # (R237). -/
def execCpyImm (imm : Byte) (s : State) : Host.Outcome State Fault Refusal := .next (State.cpy imm s)

/-- $C1 CMP (zp,X) (R235). -/
def execCmpIndX (z : Byte) (s : State) : Host.Outcome State Fault Refusal :=
  .next (readClass (.indX z) State.cmp s)

/-- $C4 CPY zp (R237). -/
def execCpyZp (z : Byte) (s : State) : Host.Outcome State Fault Refusal :=
  .next (readClass (.zp z) State.cpy s)

/-- $C5 CMP zp (R235). -/
def execCmpZp (z : Byte) (s : State) : Host.Outcome State Fault Refusal :=
  .next (readClass (.zp z) State.cmp s)

/-- $C6 DEC zp (R240). -/
def execDecZp (z : Byte) (s : State) : Host.Outcome State Fault Refusal :=
  .next (modifyClass (.zp z) decrement State.flagsNZ s)

/-- $C8 INY (R242). -/
def execIny (s : State) : Host.Outcome State Fault Refusal :=
  .next (impliedClass (fun s => State.loadY (s.y + 1) s) s)

/-- $C9 CMP # (R235). -/
def execCmpImm (imm : Byte) (s : State) : Host.Outcome State Fault Refusal := .next (State.cmp imm s)

/-- $CA DEX (R243). -/
def execDex (s : State) : Host.Outcome State Fault Refusal :=
  .next (impliedClass (fun s => State.loadX (s.x - 1) s) s)

/-- $CC CPY abs (R237). -/
def execCpyAbs (addr : Word) (s : State) : Host.Outcome State Fault Refusal :=
  .next (readClass (.abs addr) State.cpy s)

/-- $CD CMP abs (R235). -/
def execCmpAbs (addr : Word) (s : State) : Host.Outcome State Fault Refusal :=
  .next (readClass (.abs addr) State.cmp s)

/-- $CE DEC abs (R240). -/
def execDecAbs (addr : Word) (s : State) : Host.Outcome State Fault Refusal :=
  .next (modifyClass (.abs addr) decrement State.flagsNZ s)

/-- $D1 CMP (zp),Y (R235). -/
def execCmpIndY (z : Byte) (s : State) : Host.Outcome State Fault Refusal :=
  .next (readClass (.indY z) State.cmp s)

/-- $D5 CMP zp,X (R235). -/
def execCmpZpX (z : Byte) (s : State) : Host.Outcome State Fault Refusal :=
  .next (readClass (.zpX z) State.cmp s)

/-- $D6 DEC zp,X (R240). -/
def execDecZpX (z : Byte) (s : State) : Host.Outcome State Fault Refusal :=
  .next (modifyClass (.zpX z) decrement State.flagsNZ s)

/-- $D9 CMP abs,Y (R235). -/
def execCmpAbsY (addr : Word) (s : State) : Host.Outcome State Fault Refusal :=
  .next (readClass (.absY addr) State.cmp s)

/-- $DD CMP abs,X (R235). -/
def execCmpAbsX (addr : Word) (s : State) : Host.Outcome State Fault Refusal :=
  .next (readClass (.absX addr) State.cmp s)

/-- $DE DEC abs,X (R240). -/
def execDecAbsX (addr : Word) (s : State) : Host.Outcome State Fault Refusal :=
  .next (modifyClass (.absX addr) decrement State.flagsNZ s)

/-- $E0 CPX # (R236). -/
def execCpxImm (imm : Byte) (s : State) : Host.Outcome State Fault Refusal := .next (State.cpx imm s)

/-- $E1 SBC (zp,X) (R231). -/
def execSbcIndX (z : Byte) (s : State) : Host.Outcome State Fault Refusal :=
  .next (readClass (.indX z) State.sbc s)

/-- $E4 CPX zp (R236). -/
def execCpxZp (z : Byte) (s : State) : Host.Outcome State Fault Refusal :=
  .next (readClass (.zp z) State.cpx s)

/-- $E5 SBC zp (R231). -/
def execSbcZp (z : Byte) (s : State) : Host.Outcome State Fault Refusal :=
  .next (readClass (.zp z) State.sbc s)

/-- $E6 INC zp (R239). -/
def execIncZp (z : Byte) (s : State) : Host.Outcome State Fault Refusal :=
  .next (modifyClass (.zp z) increment State.flagsNZ s)

/-- $E8 INX (R241). -/
def execInx (s : State) : Host.Outcome State Fault Refusal :=
  .next (impliedClass (fun s => State.loadX (s.x + 1) s) s)

/-- $E9 SBC # (R231). -/
def execSbcImm (imm : Byte) (s : State) : Host.Outcome State Fault Refusal := .next (State.sbc imm s)

/-- $EC CPX abs (R236). -/
def execCpxAbs (addr : Word) (s : State) : Host.Outcome State Fault Refusal :=
  .next (readClass (.abs addr) State.cpx s)

/-- $ED SBC abs (R231). -/
def execSbcAbs (addr : Word) (s : State) : Host.Outcome State Fault Refusal :=
  .next (readClass (.abs addr) State.sbc s)

/-- $EE INC abs (R239). -/
def execIncAbs (addr : Word) (s : State) : Host.Outcome State Fault Refusal :=
  .next (modifyClass (.abs addr) increment State.flagsNZ s)

/-- $F1 SBC (zp),Y (R231). -/
def execSbcIndY (z : Byte) (s : State) : Host.Outcome State Fault Refusal :=
  .next (readClass (.indY z) State.sbc s)

/-- $F5 SBC zp,X (R231). -/
def execSbcZpX (z : Byte) (s : State) : Host.Outcome State Fault Refusal :=
  .next (readClass (.zpX z) State.sbc s)

/-- $F6 INC zp,X (R239). -/
def execIncZpX (z : Byte) (s : State) : Host.Outcome State Fault Refusal :=
  .next (modifyClass (.zpX z) increment State.flagsNZ s)

/-- $F9 SBC abs,Y (R231). -/
def execSbcAbsY (addr : Word) (s : State) : Host.Outcome State Fault Refusal :=
  .next (readClass (.absY addr) State.sbc s)

/-- $FD SBC abs,X (R231). -/
def execSbcAbsX (addr : Word) (s : State) : Host.Outcome State Fault Refusal :=
  .next (readClass (.absX addr) State.sbc s)

/-- $FE INC abs,X (R239). -/
def execIncAbsX (addr : Word) (s : State) : Host.Outcome State Fault Refusal :=
  .next (modifyClass (.absX addr) increment State.flagsNZ s)

end Sys2Proof.Machine
end

