-- ==== Sys2Proof/Machine/Control.lean ====
section
/-! DEFINITION. Control transfer (R300 to R313). -/

namespace Sys2Proof.Machine

/-- `Branch(cond)` on the state after the offset is fetched (R300). -/
def State.branch (s : State) (cond : Bool) (off : Byte) : State :=
  if cond then
    let next := s.pc
    let target := next + sext off
    let s := s.read next
    let s := if pagesDiffer target next then s.read (cat (hi next) (lo target)) else s
    s.setPc target
  else s

/-- JMP absolute (R309). -/
def State.jump (s : State) (addr : Word) : State := s.setPc addr

/-- JMP indirect: the pointer's high byte is read within the page (R140, R309). -/
def State.jumpIndirect (s : State) (ptr : Word) : State :=
  (s.read16Wrap ptr).setPc (s.peek16Wrap ptr)

/-- JSR after the low byte of the target is fetched: PC addresses the high byte, which is read after the
pushes, so that a JSR whose high byte lies where a push goes reads the byte just written (R310, its pseudocode
and its corner case; the general sentences of R83 and R454 differ, log entry 17). -/
def State.jsr (s : State) (l : Byte) : State :=
  let s := s.read (stackPage s.sp)
  let s := (s.push (hi s.pc)).push (lo s.pc)
  (s.read s.pc).setPc (cat (s.peek s.pc) l)

/-- RTS after `Dummy(PC)` (R311). -/
def State.rts (s : State) : State :=
  let s := s.read (stackPage s.sp)
  let l := s.peekPull
  let s := s.pull
  let h := s.peekPull
  let s := s.pull.setPc (cat h l)
  (s.read s.pc).setPc (s.pc + 1)

/-- BRK: the padding byte is fetched and discarded, then the entry sequence (R102, R312). -/
def State.brk (s : State) : State := s.fetch.interruptSequence .brk

/-- $00 BRK (R312). -/
def execBrk (s : State) : Host.Outcome State Fault Refusal := .next (s.brk)

/-- $10 BPL rel (R301). -/
def execBpl (off : Byte) (s : State) : Host.Outcome State Fault Refusal := .next (s.branch (!s.p.n) off)

/-- $20 JSR abs (R310). -/
def execJsr (l : Byte) (s : State) : Host.Outcome State Fault Refusal := .next (s.jsr l)

/-- $30 BMI rel (R302). -/
def execBmi (off : Byte) (s : State) : Host.Outcome State Fault Refusal := .next (s.branch s.p.n off)

/-- $40 RTI (R313). -/
def execRti (s : State) : Host.Outcome State Fault Refusal := .next (s.returnFromInterrupt)

/-- $4C JMP abs (R309). -/
def execJmpAbs (addr : Word) (s : State) : Host.Outcome State Fault Refusal := .next (s.jump addr)

/-- $50 BVC rel (R303). -/
def execBvc (off : Byte) (s : State) : Host.Outcome State Fault Refusal := .next (s.branch (!s.p.v) off)

/-- $60 RTS (R311). -/
def execRts (s : State) : Host.Outcome State Fault Refusal := .next (impliedClass State.rts s)

/-- $6C JMP (abs) (R309). -/
def execJmpInd (ptr : Word) (s : State) : Host.Outcome State Fault Refusal := .next (s.jumpIndirect ptr)

/-- $70 BVS rel (R304). -/
def execBvs (off : Byte) (s : State) : Host.Outcome State Fault Refusal := .next (s.branch s.p.v off)

/-- $90 BCC rel (R305). -/
def execBcc (off : Byte) (s : State) : Host.Outcome State Fault Refusal := .next (s.branch (!s.p.c) off)

/-- $B0 BCS rel (R306). -/
def execBcs (off : Byte) (s : State) : Host.Outcome State Fault Refusal := .next (s.branch s.p.c off)

/-- $D0 BNE rel (R307). -/
def execBne (off : Byte) (s : State) : Host.Outcome State Fault Refusal := .next (s.branch (!s.p.z) off)

/-- $F0 BEQ rel (R308). -/
def execBeq (off : Byte) (s : State) : Host.Outcome State Fault Refusal := .next (s.branch s.p.z off)

end Sys2Proof.Machine
end

