-- ==== Sys2Proof/Machine/IllegalCombined.lean ====
section
/-! DEFINITION. Undocumented combined operations (R330 to R337). -/

namespace Sys2Proof.Machine

/-- After `R <- ShiftLeft(M)`: `A <- A | R; NZ(A)` (R330). -/
def State.slo (m r : Byte) (s : State) : State := State.ora r (s.setP (s.p.carry (m.getLsbD 7)))

/-- After `R <- RotateLeft(M)`: `A <- A & R; NZ(A)` (R331). -/
def State.rla (m r : Byte) (s : State) : State := State.and r (s.setP (s.p.carry (m.getLsbD 7)))

/-- After `R <- ShiftRight(M)`: `A <- A ^ R; NZ(A)` (R332). -/
def State.sre (m r : Byte) (s : State) : State := State.eor r (s.setP (s.p.carry (m.getLsbD 0)))

/-- After `R <- RotateRight(M)`: `A <- AddCarry(A, R, P.C); NZ(A)`, the carry in being the rotate's carry
out (R333). -/
def State.rra (m r : Byte) (s : State) : State := State.adc r (s.setP (s.p.carry (m.getLsbD 0)))

/-- `A <- M; X <- M; NZ(M)` (R335). -/
def State.lax (m : Byte) (s : State) : State := { s with a := m, x := m, p := s.p.nz m }

/-- After `R <- M -8 1`: `Compare(A, R)` (R336). -/
def State.dcp (_ r : Byte) (s : State) : State := State.cmp r s

/-- After `R <- M +8 1`: `A <- AddCarry(A, R ^ $FF, P.C); NZ(A)` (R337). -/
def State.isc (_ r : Byte) (s : State) : State := State.sbc r s

/-- $03 SLO (zp,X) (R330). -/
def execSloIndX (z : Byte) (s : State) : Host.Outcome State Fault Refusal :=
  .next (modifyClass (.indX z) (fun _ => shiftLeft) State.slo s)

/-- $07 SLO zp (R330). -/
def execSloZp (z : Byte) (s : State) : Host.Outcome State Fault Refusal :=
  .next (modifyClass (.zp z) (fun _ => shiftLeft) State.slo s)

/-- $0F SLO abs (R330). -/
def execSloAbs (addr : Word) (s : State) : Host.Outcome State Fault Refusal :=
  .next (modifyClass (.abs addr) (fun _ => shiftLeft) State.slo s)

/-- $13 SLO (zp),Y (R330). -/
def execSloIndY (z : Byte) (s : State) : Host.Outcome State Fault Refusal :=
  .next (modifyClass (.indY z) (fun _ => shiftLeft) State.slo s)

/-- $17 SLO zp,X (R330). -/
def execSloZpX (z : Byte) (s : State) : Host.Outcome State Fault Refusal :=
  .next (modifyClass (.zpX z) (fun _ => shiftLeft) State.slo s)

/-- $1B SLO abs,Y (R330). -/
def execSloAbsY (addr : Word) (s : State) : Host.Outcome State Fault Refusal :=
  .next (modifyClass (.absY addr) (fun _ => shiftLeft) State.slo s)

/-- $1F SLO abs,X (R330). -/
def execSloAbsX (addr : Word) (s : State) : Host.Outcome State Fault Refusal :=
  .next (modifyClass (.absX addr) (fun _ => shiftLeft) State.slo s)

/-- $23 RLA (zp,X) (R331). -/
def execRlaIndX (z : Byte) (s : State) : Host.Outcome State Fault Refusal :=
  .next (modifyClass (.indX z) rotateLeft State.rla s)

/-- $27 RLA zp (R331). -/
def execRlaZp (z : Byte) (s : State) : Host.Outcome State Fault Refusal :=
  .next (modifyClass (.zp z) rotateLeft State.rla s)

/-- $2F RLA abs (R331). -/
def execRlaAbs (addr : Word) (s : State) : Host.Outcome State Fault Refusal :=
  .next (modifyClass (.abs addr) rotateLeft State.rla s)

/-- $33 RLA (zp),Y (R331). -/
def execRlaIndY (z : Byte) (s : State) : Host.Outcome State Fault Refusal :=
  .next (modifyClass (.indY z) rotateLeft State.rla s)

/-- $37 RLA zp,X (R331). -/
def execRlaZpX (z : Byte) (s : State) : Host.Outcome State Fault Refusal :=
  .next (modifyClass (.zpX z) rotateLeft State.rla s)

/-- $3B RLA abs,Y (R331). -/
def execRlaAbsY (addr : Word) (s : State) : Host.Outcome State Fault Refusal :=
  .next (modifyClass (.absY addr) rotateLeft State.rla s)

/-- $3F RLA abs,X (R331). -/
def execRlaAbsX (addr : Word) (s : State) : Host.Outcome State Fault Refusal :=
  .next (modifyClass (.absX addr) rotateLeft State.rla s)

/-- $43 SRE (zp,X) (R332). -/
def execSreIndX (z : Byte) (s : State) : Host.Outcome State Fault Refusal :=
  .next (modifyClass (.indX z) (fun _ => shiftRight) State.sre s)

/-- $47 SRE zp (R332). -/
def execSreZp (z : Byte) (s : State) : Host.Outcome State Fault Refusal :=
  .next (modifyClass (.zp z) (fun _ => shiftRight) State.sre s)

/-- $4F SRE abs (R332). -/
def execSreAbs (addr : Word) (s : State) : Host.Outcome State Fault Refusal :=
  .next (modifyClass (.abs addr) (fun _ => shiftRight) State.sre s)

/-- $53 SRE (zp),Y (R332). -/
def execSreIndY (z : Byte) (s : State) : Host.Outcome State Fault Refusal :=
  .next (modifyClass (.indY z) (fun _ => shiftRight) State.sre s)

/-- $57 SRE zp,X (R332). -/
def execSreZpX (z : Byte) (s : State) : Host.Outcome State Fault Refusal :=
  .next (modifyClass (.zpX z) (fun _ => shiftRight) State.sre s)

/-- $5B SRE abs,Y (R332). -/
def execSreAbsY (addr : Word) (s : State) : Host.Outcome State Fault Refusal :=
  .next (modifyClass (.absY addr) (fun _ => shiftRight) State.sre s)

/-- $5F SRE abs,X (R332). -/
def execSreAbsX (addr : Word) (s : State) : Host.Outcome State Fault Refusal :=
  .next (modifyClass (.absX addr) (fun _ => shiftRight) State.sre s)

/-- $63 RRA (zp,X) (R333). -/
def execRraIndX (z : Byte) (s : State) : Host.Outcome State Fault Refusal :=
  .next (modifyClass (.indX z) rotateRight State.rra s)

/-- $67 RRA zp (R333). -/
def execRraZp (z : Byte) (s : State) : Host.Outcome State Fault Refusal :=
  .next (modifyClass (.zp z) rotateRight State.rra s)

/-- $6F RRA abs (R333). -/
def execRraAbs (addr : Word) (s : State) : Host.Outcome State Fault Refusal :=
  .next (modifyClass (.abs addr) rotateRight State.rra s)

/-- $73 RRA (zp),Y (R333). -/
def execRraIndY (z : Byte) (s : State) : Host.Outcome State Fault Refusal :=
  .next (modifyClass (.indY z) rotateRight State.rra s)

/-- $77 RRA zp,X (R333). -/
def execRraZpX (z : Byte) (s : State) : Host.Outcome State Fault Refusal :=
  .next (modifyClass (.zpX z) rotateRight State.rra s)

/-- $7B RRA abs,Y (R333). -/
def execRraAbsY (addr : Word) (s : State) : Host.Outcome State Fault Refusal :=
  .next (modifyClass (.absY addr) rotateRight State.rra s)

/-- $7F RRA abs,X (R333). -/
def execRraAbsX (addr : Word) (s : State) : Host.Outcome State Fault Refusal :=
  .next (modifyClass (.absX addr) rotateRight State.rra s)

/-- $83 SAX (zp,X) (R334). -/
def execSaxIndX (z : Byte) (s : State) : Host.Outcome State Fault Refusal :=
  .next (writeClass (.indX z) (s.a &&& s.x) s)

/-- $87 SAX zp (R334). -/
def execSaxZp (z : Byte) (s : State) : Host.Outcome State Fault Refusal :=
  .next (writeClass (.zp z) (s.a &&& s.x) s)

/-- $8F SAX abs (R334). -/
def execSaxAbs (addr : Word) (s : State) : Host.Outcome State Fault Refusal :=
  .next (writeClass (.abs addr) (s.a &&& s.x) s)

/-- $97 SAX zp,Y (R334). -/
def execSaxZpY (z : Byte) (s : State) : Host.Outcome State Fault Refusal :=
  .next (writeClass (.zpY z) (s.a &&& s.x) s)

/-- $A3 LAX (zp,X) (R335). -/
def execLaxIndX (z : Byte) (s : State) : Host.Outcome State Fault Refusal :=
  .next (readClass (.indX z) State.lax s)

/-- $A7 LAX zp (R335). -/
def execLaxZp (z : Byte) (s : State) : Host.Outcome State Fault Refusal :=
  .next (readClass (.zp z) State.lax s)

/-- $AF LAX abs (R335). -/
def execLaxAbs (addr : Word) (s : State) : Host.Outcome State Fault Refusal :=
  .next (readClass (.abs addr) State.lax s)

/-- $B3 LAX (zp),Y (R335). -/
def execLaxIndY (z : Byte) (s : State) : Host.Outcome State Fault Refusal :=
  .next (readClass (.indY z) State.lax s)

/-- $B7 LAX zp,Y (R335). -/
def execLaxZpY (z : Byte) (s : State) : Host.Outcome State Fault Refusal :=
  .next (readClass (.zpY z) State.lax s)

/-- $BF LAX abs,Y (R335). -/
def execLaxAbsY (addr : Word) (s : State) : Host.Outcome State Fault Refusal :=
  .next (readClass (.absY addr) State.lax s)

/-- $C3 DCP (zp,X) (R336). -/
def execDcpIndX (z : Byte) (s : State) : Host.Outcome State Fault Refusal :=
  .next (modifyClass (.indX z) decrement State.dcp s)

/-- $C7 DCP zp (R336). -/
def execDcpZp (z : Byte) (s : State) : Host.Outcome State Fault Refusal :=
  .next (modifyClass (.zp z) decrement State.dcp s)

/-- $CF DCP abs (R336). -/
def execDcpAbs (addr : Word) (s : State) : Host.Outcome State Fault Refusal :=
  .next (modifyClass (.abs addr) decrement State.dcp s)

/-- $D3 DCP (zp),Y (R336). -/
def execDcpIndY (z : Byte) (s : State) : Host.Outcome State Fault Refusal :=
  .next (modifyClass (.indY z) decrement State.dcp s)

/-- $D7 DCP zp,X (R336). -/
def execDcpZpX (z : Byte) (s : State) : Host.Outcome State Fault Refusal :=
  .next (modifyClass (.zpX z) decrement State.dcp s)

/-- $DB DCP abs,Y (R336). -/
def execDcpAbsY (addr : Word) (s : State) : Host.Outcome State Fault Refusal :=
  .next (modifyClass (.absY addr) decrement State.dcp s)

/-- $DF DCP abs,X (R336). -/
def execDcpAbsX (addr : Word) (s : State) : Host.Outcome State Fault Refusal :=
  .next (modifyClass (.absX addr) decrement State.dcp s)

/-- $E3 ISC (zp,X) (R337). -/
def execIscIndX (z : Byte) (s : State) : Host.Outcome State Fault Refusal :=
  .next (modifyClass (.indX z) increment State.isc s)

/-- $E7 ISC zp (R337). -/
def execIscZp (z : Byte) (s : State) : Host.Outcome State Fault Refusal :=
  .next (modifyClass (.zp z) increment State.isc s)

/-- $EF ISC abs (R337). -/
def execIscAbs (addr : Word) (s : State) : Host.Outcome State Fault Refusal :=
  .next (modifyClass (.abs addr) increment State.isc s)

/-- $F3 ISC (zp),Y (R337). -/
def execIscIndY (z : Byte) (s : State) : Host.Outcome State Fault Refusal :=
  .next (modifyClass (.indY z) increment State.isc s)

/-- $F7 ISC zp,X (R337). -/
def execIscZpX (z : Byte) (s : State) : Host.Outcome State Fault Refusal :=
  .next (modifyClass (.zpX z) increment State.isc s)

/-- $FB ISC abs,Y (R337). -/
def execIscAbsY (addr : Word) (s : State) : Host.Outcome State Fault Refusal :=
  .next (modifyClass (.absY addr) increment State.isc s)

/-- $FF ISC abs,X (R337). -/
def execIscAbsX (addr : Word) (s : State) : Host.Outcome State Fault Refusal :=
  .next (modifyClass (.absX addr) increment State.isc s)

end Sys2Proof.Machine
end

