-- ==== Sys2Proof/Machine/IllegalOther.lean ====
section
/-! DEFINITION. Undocumented immediate, unstable, no-operation and jam opcodes (R360 to R375). -/

namespace Sys2Proof.Machine

/-- `A <- A & M; NZ(A); P.C <- A[7]` (R360). -/
def State.anc (m : Byte) (s : State) : State :=
  let r := s.a &&& m
  { s with a := r, p := (s.p.nz r).carry (r.getLsbD 7) }

/-- `t <- A & M; A <- ShiftRight(t); NZ(A)` (R361). -/
def State.alr (m : Byte) (s : State) : State :=
  let t := s.a &&& m
  { s with a := shiftRight t, p := (s.p.carry (t.getLsbD 0)).nz (shiftRight t) }

/-- ARR: AND, rotate right, C and V from the result (R362). -/
def State.arr (m : Byte) (s : State) : State :=
  let r := rotateRight s.p.c (s.a &&& m)
  { s with a := r, p := s.p.arr r }

/-- `(A | ANE_MAGIC) & X & M` for a given constant (R363). -/
def aneValue (magic a x m : Byte) : Byte := (a ||| magic) &&& x &&& m

/-- `A <- (A | ANE_MAGIC) & X & M; NZ(A)` (R363). -/
def State.ane (m : Byte) (s : State) : State := State.loadA (aneValue Config.aneMagic s.a s.x m) s

/-- `(A | LXA_MAGIC) & M` for a given constant (R364). -/
def lxaValue (magic a m : Byte) : Byte := (a ||| magic) &&& m

/-- `t <- (A | LXA_MAGIC) & M; A <- t; X <- t; NZ(t)` (R364). -/
def State.lxa (m : Byte) (s : State) : State :=
  let t := lxaValue Config.lxaMagic s.a m
  { s with a := t, x := t, p := s.p.nz t }

/-- `t <- A & X; P.C <- (t >= M); X <- t -8 M; NZ(X)` (R365). -/
def State.sbx (m : Byte) (s : State) : State :=
  let t := s.a &&& s.x
  { s with x := t - m, p := (s.p.carry (decide (m.toNat ≤ t.toNat))).nz (t - m) }

/-- `t <- M & S; A <- t; X <- t; S <- t; NZ(t)` (R372). -/
def State.las (m : Byte) (s : State) : State :=
  let t := m &&& s.sp
  { s with a := t, x := t, sp := t, p := s.p.nz t }

/-- `M` is discarded (R374). -/
def State.discard (_ : Byte) (s : State) : State := s

/-- $02 JAM (R375). -/
def execJam02 (s : State) : Host.Outcome State Fault Refusal :=
  .next (impliedClass (fun s => { s with halted := true }) s)

/-- $04 NOP zp (R374). -/
def execNopZp04 (z : Byte) (s : State) : Host.Outcome State Fault Refusal :=
  .next (readClass (.zp z) State.discard s)

/-- $0B ANC # (R360). -/
def execAncImm0B (imm : Byte) (s : State) : Host.Outcome State Fault Refusal := .next (State.anc imm s)

/-- $0C NOP abs (R374). -/
def execNopAbs0C (addr : Word) (s : State) : Host.Outcome State Fault Refusal :=
  .next (readClass (.abs addr) State.discard s)

/-- $12 JAM (R375). -/
def execJam12 (s : State) : Host.Outcome State Fault Refusal :=
  .next (impliedClass (fun s => { s with halted := true }) s)

/-- $14 NOP zp,X (R374). -/
def execNopZpX14 (z : Byte) (s : State) : Host.Outcome State Fault Refusal :=
  .next (readClass (.zpX z) State.discard s)

/-- $1A NOP (R373). -/
def execNop1A (s : State) : Host.Outcome State Fault Refusal := .next (impliedClass id s)

/-- $1C NOP abs,X (R374). -/
def execNopAbsX1C (addr : Word) (s : State) : Host.Outcome State Fault Refusal :=
  .next (readClass (.absX addr) State.discard s)

/-- $22 JAM (R375). -/
def execJam22 (s : State) : Host.Outcome State Fault Refusal :=
  .next (impliedClass (fun s => { s with halted := true }) s)

/-- $2B ANC # (R360). -/
def execAncImm2B (imm : Byte) (s : State) : Host.Outcome State Fault Refusal := .next (State.anc imm s)

/-- $32 JAM (R375). -/
def execJam32 (s : State) : Host.Outcome State Fault Refusal :=
  .next (impliedClass (fun s => { s with halted := true }) s)

/-- $34 NOP zp,X (R374). -/
def execNopZpX34 (z : Byte) (s : State) : Host.Outcome State Fault Refusal :=
  .next (readClass (.zpX z) State.discard s)

/-- $3A NOP (R373). -/
def execNop3A (s : State) : Host.Outcome State Fault Refusal := .next (impliedClass id s)

/-- $3C NOP abs,X (R374). -/
def execNopAbsX3C (addr : Word) (s : State) : Host.Outcome State Fault Refusal :=
  .next (readClass (.absX addr) State.discard s)

/-- $42 JAM (R375). -/
def execJam42 (s : State) : Host.Outcome State Fault Refusal :=
  .next (impliedClass (fun s => { s with halted := true }) s)

/-- $44 NOP zp (R374). -/
def execNopZp44 (z : Byte) (s : State) : Host.Outcome State Fault Refusal :=
  .next (readClass (.zp z) State.discard s)

/-- $4B ALR # (R361). -/
def execAlrImm (imm : Byte) (s : State) : Host.Outcome State Fault Refusal := .next (State.alr imm s)

/-- $52 JAM (R375). -/
def execJam52 (s : State) : Host.Outcome State Fault Refusal :=
  .next (impliedClass (fun s => { s with halted := true }) s)

/-- $54 NOP zp,X (R374). -/
def execNopZpX54 (z : Byte) (s : State) : Host.Outcome State Fault Refusal :=
  .next (readClass (.zpX z) State.discard s)

/-- $5A NOP (R373). -/
def execNop5A (s : State) : Host.Outcome State Fault Refusal := .next (impliedClass id s)

/-- $5C NOP abs,X (R374). -/
def execNopAbsX5C (addr : Word) (s : State) : Host.Outcome State Fault Refusal :=
  .next (readClass (.absX addr) State.discard s)

/-- $62 JAM (R375). -/
def execJam62 (s : State) : Host.Outcome State Fault Refusal :=
  .next (impliedClass (fun s => { s with halted := true }) s)

/-- $64 NOP zp (R374). -/
def execNopZp64 (z : Byte) (s : State) : Host.Outcome State Fault Refusal :=
  .next (readClass (.zp z) State.discard s)

/-- $6B ARR # (R362). -/
def execArrImm (imm : Byte) (s : State) : Host.Outcome State Fault Refusal := .next (State.arr imm s)

/-- $72 JAM (R375). -/
def execJam72 (s : State) : Host.Outcome State Fault Refusal :=
  .next (impliedClass (fun s => { s with halted := true }) s)

/-- $74 NOP zp,X (R374). -/
def execNopZpX74 (z : Byte) (s : State) : Host.Outcome State Fault Refusal :=
  .next (readClass (.zpX z) State.discard s)

/-- $7A NOP (R373). -/
def execNop7A (s : State) : Host.Outcome State Fault Refusal := .next (impliedClass id s)

/-- $7C NOP abs,X (R374). -/
def execNopAbsX7C (addr : Word) (s : State) : Host.Outcome State Fault Refusal :=
  .next (readClass (.absX addr) State.discard s)

/-- $80 NOP # (R374). -/
def execNopImm80 (imm : Byte) (s : State) : Host.Outcome State Fault Refusal := .next (State.discard imm s)

/-- $82 NOP # (R374). -/
def execNopImm82 (imm : Byte) (s : State) : Host.Outcome State Fault Refusal := .next (State.discard imm s)

/-- $89 NOP # (R374). -/
def execNopImm89 (imm : Byte) (s : State) : Host.Outcome State Fault Refusal := .next (State.discard imm s)

/-- $8B ANE # (R363). -/
def execAneImm (imm : Byte) (s : State) : Host.Outcome State Fault Refusal := .next (State.ane imm s)

/-- $92 JAM (R375). -/
def execJam92 (s : State) : Host.Outcome State Fault Refusal :=
  .next (impliedClass (fun s => { s with halted := true }) s)

/-- $93 SHA (zp),Y (R368). -/
def execShaIndY (z : Byte) (s : State) : Host.Outcome State Fault Refusal :=
  .next (unstableStore (.indY z) (s.a &&& s.x) s)

/-- $9B TAS abs,Y (R371). -/
def execTasAbsY (addr : Word) (s : State) : Host.Outcome State Fault Refusal :=
  .next (unstableStore (.absY addr) (s.a &&& s.x) (s.setSp (s.a &&& s.x)))

/-- $9C SHY abs,X (R370). -/
def execShyAbsX (addr : Word) (s : State) : Host.Outcome State Fault Refusal :=
  .next (unstableStore (.absX addr) s.y s)

/-- $9E SHX abs,Y (R369). -/
def execShxAbsY (addr : Word) (s : State) : Host.Outcome State Fault Refusal :=
  .next (unstableStore (.absY addr) s.x s)

/-- $9F SHA abs,Y (R368). -/
def execShaAbsY (addr : Word) (s : State) : Host.Outcome State Fault Refusal :=
  .next (unstableStore (.absY addr) (s.a &&& s.x) s)

/-- $AB LXA # (R364). -/
def execLxaImm (imm : Byte) (s : State) : Host.Outcome State Fault Refusal := .next (State.lxa imm s)

/-- $B2 JAM (R375). -/
def execJamB2 (s : State) : Host.Outcome State Fault Refusal :=
  .next (impliedClass (fun s => { s with halted := true }) s)

/-- $BB LAS abs,Y (R372). -/
def execLasAbsY (addr : Word) (s : State) : Host.Outcome State Fault Refusal :=
  .next (readClass (.absY addr) State.las s)

/-- $C2 NOP # (R374). -/
def execNopImmC2 (imm : Byte) (s : State) : Host.Outcome State Fault Refusal := .next (State.discard imm s)

/-- $CB SBX # (R365). -/
def execSbxImm (imm : Byte) (s : State) : Host.Outcome State Fault Refusal := .next (State.sbx imm s)

/-- $D2 JAM (R375). -/
def execJamD2 (s : State) : Host.Outcome State Fault Refusal :=
  .next (impliedClass (fun s => { s with halted := true }) s)

/-- $D4 NOP zp,X (R374). -/
def execNopZpXD4 (z : Byte) (s : State) : Host.Outcome State Fault Refusal :=
  .next (readClass (.zpX z) State.discard s)

/-- $DA NOP (R373). -/
def execNopDA (s : State) : Host.Outcome State Fault Refusal := .next (impliedClass id s)

/-- $DC NOP abs,X (R374). -/
def execNopAbsXDC (addr : Word) (s : State) : Host.Outcome State Fault Refusal :=
  .next (readClass (.absX addr) State.discard s)

/-- $E2 NOP # (R374). -/
def execNopImmE2 (imm : Byte) (s : State) : Host.Outcome State Fault Refusal := .next (State.discard imm s)

/-- $EB USBC # (R366). -/
def execUsbcImm (imm : Byte) (s : State) : Host.Outcome State Fault Refusal := .next (State.sbc imm s)

/-- $F2 JAM (R375). -/
def execJamF2 (s : State) : Host.Outcome State Fault Refusal :=
  .next (impliedClass (fun s => { s with halted := true }) s)

/-- $F4 NOP zp,X (R374). -/
def execNopZpXF4 (z : Byte) (s : State) : Host.Outcome State Fault Refusal :=
  .next (readClass (.zpX z) State.discard s)

/-- $FA NOP (R373). -/
def execNopFA (s : State) : Host.Outcome State Fault Refusal := .next (impliedClass id s)

/-- $FC NOP abs,X (R374). -/
def execNopAbsXFC (addr : Word) (s : State) : Host.Outcome State Fault Refusal :=
  .next (readClass (.absX addr) State.discard s)

end Sys2Proof.Machine
end

