-- ==== Sys2Proof/Machine/StackFlags.lean ====
section
/-! DEFINITION. Stack, flag and no-operation instructions (R270 to R281). -/

namespace Sys2Proof.Machine

/-- `Push(A)` (R270). -/
def State.pha (s : State) : State := s.push s.a

/-- `Push(PushImage(1))` (R271). -/
def State.php (s : State) : State := s.push (s.p.pushImage true)

/-- `Dummy({$01, S}); A <- Pull(); NZ(A)` (R272). -/
def State.pla (s : State) : State :=
  let s := s.read (stackPage s.sp)
  State.loadA s.peekPull s.pull

/-- `Dummy({$01, S}); SetP(Pull())` (R273). -/
def State.plp (s : State) : State :=
  let s := s.read (stackPage s.sp)
  s.pull.setP (Flags.ofByte s.peekPull)

/-- $08 PHP (R271). -/
def execPhp (s : State) : Host.Outcome State Fault Refusal := .next (impliedClass State.php s)

/-- $18 CLC (R274). -/
def execClc (s : State) : Host.Outcome State Fault Refusal :=
  .next (impliedClass (fun s => s.setP { s.p with c := false }) s)

/-- $28 PLP (R273). -/
def execPlp (s : State) : Host.Outcome State Fault Refusal := .next (impliedClass State.plp s)

/-- $38 SEC (R275). -/
def execSec (s : State) : Host.Outcome State Fault Refusal :=
  .next (impliedClass (fun s => s.setP { s.p with c := true }) s)

/-- $48 PHA (R270). -/
def execPha (s : State) : Host.Outcome State Fault Refusal := .next (impliedClass State.pha s)

/-- $58 CLI (R276). -/
def execCli (s : State) : Host.Outcome State Fault Refusal :=
  .next (impliedClass (fun s => s.setP { s.p with i := false }) s)

/-- $68 PLA (R272). -/
def execPla (s : State) : Host.Outcome State Fault Refusal := .next (impliedClass State.pla s)

/-- $78 SEI (R277). -/
def execSei (s : State) : Host.Outcome State Fault Refusal :=
  .next (impliedClass (fun s => s.setP { s.p with i := true }) s)

/-- $B8 CLV (R280). -/
def execClv (s : State) : Host.Outcome State Fault Refusal :=
  .next (impliedClass (fun s => s.setP { s.p with v := false }) s)

/-- $D8 CLD (R278). -/
def execCld (s : State) : Host.Outcome State Fault Refusal :=
  .next (impliedClass (fun s => s.setP { s.p with d := false }) s)

/-- $EA NOP (R281). -/
def execNop (s : State) : Host.Outcome State Fault Refusal := .next (impliedClass id s)

/-- $F8 SED (R279). -/
def execSed (s : State) : Host.Outcome State Fault Refusal :=
  .next (impliedClass (fun s => s.setP { s.p with d := true }) s)

end Sys2Proof.Machine
end

