-- ==== Sys2Proof/Machine/Step.lean ====
section
/-! DEFINITION. `step`, the step contract of R401, and the placing of an instruction for the next step. -/

namespace Sys2Proof.Machine

/-- What follows the instruction of a step: the count of its accesses is returned and added (R401). -/
def finishOutcome : Host.Outcome State Fault Refusal → Host.Outcome State Fault Refusal
  | .next s => .next s.finishStep
  | .fault f => .fault f
  | .refused r => .refused r

/-- `step()` (R401): exactly one reset sequence, halted cycle, interrupt entry or instruction. The count it
returns is the field `cycles` of the next state. -/
def step (s : State) : Host.Outcome State Fault Refusal :=
  let t := s.beginStep
  match t.boundary with
  | .reset => .next t.resetSequence.finishStep
  | .halted => .next t.haltedStep
  | .nmi => .next (t.interruptSequence .nmi).finishStep
  | .irq => .next (t.interruptSequence .irq).finishStep
  | .instruction => finishOutcome (exec t.peekInstr t.fetchInstr)

/-- The state with the instruction of a table row's word stored where the next step fetches it. -/
def State.withFetchWord (s : State) (nbits w : Nat) : State :=
  s.placeInstr (tableBytes nbits w).1 (tableBytes nbits w).2.1 (tableBytes nbits w).2.2

end Sys2Proof.Machine
end

