-- ==== Sys2Proof/Safety.lean ====
section
/-! DEFINITION. What claims use: the invariant of the machine, what hangs it, and the states an
environment can bring it to. -/

namespace Sys2Proof.Machine

/-- The storage is well formed: the list is canonical and lists only cells the configuration has
(R62, R63, R67, R68). -/
abbrev State.StorageOk (s : State) : Prop :=
  Memory.wf s.mem = true ∧ s.mem.all (fun c => cellExists s.prgRom s.prgRam c.1) = true

/-- The record of the last step is coherent: it returned 1 to 8 cycles (R465), one per access unless it was
a halted step, which makes none (R147, R414), and the latch holds the byte of the last access (R70). -/
abbrev State.RecordOk (s : State) : Prop :=
  1 ≤ s.cycles ∧ s.cycles ≤ 8 ∧
  (s.trace.length = s.cycles ∨ (s.trace = [] ∧ s.cycles = 1 ∧ s.halted = true)) ∧
  (∀ e ∈ s.trace.getLast?, e.data = s.busLatch)

/-- The invariant between steps. -/
abbrev State.Inv (s : State) : Prop := s.StorageOk ∧ s.RecordOk

/-- No instruction, NMI or IRQ is ever taken again until a reset is asserted (R414; 93 part 1 row 2:
`stuck`). A halted step must not be read as progress. -/
def State.stuck (s : State) : Bool := s.halted && !s.lines.resetPending

/-- The states a construction, steps and the driver's calls lead to (R45, R451). The calls a hook or a tick
makes inside a step are in the script of the state. -/
inductive Reachable : State → Prop where
  | constructed (c : Cartridge) (u : PowerUp) (hookReads : List Byte) (ticks : List (List Signal)) (s : State) :
    construct c u hookReads ticks = .next s → Reachable s
  | stepped (s t : State) : Reachable s → step s = .next t → Reachable t
  | nmiSet (s : State) (level : Bool) : Reachable s → Reachable (s.setNmi level)
  | irqSet (s : State) (level : Bool) : Reachable s → Reachable (s.setIrq level)
  | resetAsserted (s : State) : Reachable s → Reachable s.assertReset

/-! ## The vocabulary of claims -/

/-- The registers of the core (R20, R38): a claim that gives them all says what an instruction writes and,
of the rest, that it is unchanged. -/
structure Regs where
  a  : Byte
  x  : Byte
  y  : Byte
  sp : Byte
  pc : Word
  p  : Flags
  halted : Bool
deriving DecidableEq, Repr

/-- The registers of a state. -/
def State.regs (s : State) : Regs := ⟨s.a, s.x, s.y, s.sp, s.pc, s.p, s.halted⟩

/-- How many of some accesses are reads of a register window; each of them calls its read hook once (R64,
R65, R71). -/
def State.windowReads (s : State) (l : List BusAccess) : Nat :=
  l.countP fun e => decide (e.kind = .read) && (s.region e.addr).hook.isSome

/-- `t` is reached from `s` by the bus accesses `l`: they extend the access list (R147), the latch holds the
last one's byte (R70), the environment's calls of those accesses and no others have acted on the interrupt
inputs (R86, R421), the window reads among them and no others have used up hook answers (R71, R77), and the
configuration and the counts of the last step are as they were. -/
def RanWith (s t : State) (l : List BusAccess) : Prop :=
  t.trace = s.trace ++ l ∧
  t.busLatch = (l.getLast?.map BusAccess.data).getD s.busLatch ∧
  t.lines = s.lines.signals (s.ticks.take l.length).flatten ∧
  t.ticks = s.ticks.drop l.length ∧
  t.prgRom = s.prgRom ∧ t.prgRam = s.prgRam ∧ t.cycles = s.cycles ∧ t.cyclesTotal = s.cyclesTotal ∧
  t.hookReads = s.hookReads.drop (s.windowReads l) ∧ t.hookCount = s.hookCount + s.windowReads l

/-- As `RanWith`, for some `n` accesses. -/
def Ran (s t : State) (n : Nat) : Prop := ∃ l : List BusAccess, l.length = n ∧ RanWith s t l

/-- A write at `addr` changes what `b` holds: both name one cell that takes writes (R63, R67, R68, R73). -/
def State.aliases (s : State) (addr b : Word) : Bool :=
  (s.region addr).writableCell.isSome && decide ((s.region b).cell = (s.region addr).writableCell)

/-- What an address holds after some writes, the latest first. -/
def State.storedAfter (s : State) : List (Word × Byte) → Word → Option Byte
  | [], b => s.stored b
  | e :: earlier, b => if s.aliases e.1 b then some e.2 else s.storedAfter earlier b

/-- Storage changes by these writes, the oldest first, and by nothing else: every address reads after as
it read before unless a write went to it. With no write, nothing is stored. -/
def Stores (s t : State) (writes : List (Word × Byte)) : Prop :=
  ∀ b : Word, t.stored b = s.storedAfter writes.reverse b

/-- A bus read of the access list. -/
abbrev rd (addr : Word) (v : Byte) : BusAccess := ⟨.read, addr, v⟩

/-- A bus write of the access list. -/
abbrev wr (addr : Word) (v : Byte) : BusAccess := ⟨.write, addr, v⟩

/-- `NZ(v)` in numbers (R28, R34). -/
def nzFlags (p : Flags) (v : Byte) : Flags := { p with z := decide (v.toNat = 0), n := decide (128 ≤ v.toNat) }

/-- `M`: the operand byte of an instruction (R130). -/
def operandValue (i : Instr) (s : State) : Byte :=
  match i.operand with
  | .immediate imm => imm
  | .accumulator => s.a
  | .mem m => loadValue m s
  | .implied | .target _ | .targetLow _ | .pointer _ | .offset _ => 0

/-- The condition of a branch (R301 to R308); false for an instruction that is none. -/
def branchTaken (i : Instr) (s : State) : Bool :=
  match i.mnemonic with
  | .BPL => !s.p.n
  | .BMI => s.p.n
  | .BVC => !s.p.v
  | .BVS => s.p.v
  | .BCC => !s.p.c
  | .BCS => s.p.c
  | .BNE => !s.p.z
  | .BEQ => s.p.z
  | _ => false

/-- The cycles above the base count (R142), on the state after the instruction's bytes are fetched: one
where a read with the penalty crosses a page; one for a taken branch and one more where it crosses. -/
def penalty (i : Instr) (s : State) : Nat :=
  match i.operand with
  | .mem m => if i.row.pageCrossPenalty && (resolve m s).crossed then 1 else 0
  | .offset off =>
    if branchTaken i s then 1 + (if hi (s.pc + sext off) ≠ hi s.pc then 1 else 0) else 0
  | .implied | .accumulator | .immediate _ | .target _ | .targetLow _ | .pointer _ => 0

/-- How many accesses an instruction makes after its bytes are fetched, by the opcode table (R147). -/
def accessesLeft (i : Instr) (s : State) : Nat := i.row.baseCycles + penalty i s - (encode i).length

/-- The reads that compute an effective address, by address (R135, R137, R138). -/
def pointerReads (m : MemOperand) (s : State) : List Word :=
  match m with
  | .zp _ | .abs _ | .absX _ | .absY _ => []
  | .zpX z | .zpY z => [cat 0 z]
  | .indX z => [cat 0 z, cat 0 (z + s.x), cat 0 (z + s.x + 1)]
  | .indY z => [cat 0 z, cat 0 (z + 1)]

/-- A read at an address, of which the byte is not said. -/
abbrev readAt (addr : Word) : AccessKind × Word := (.read, addr)

/-- A write at an address, of which the byte is not said. -/
abbrev writeAt (addr : Word) : AccessKind × Word := (.write, addr)

/-- An access list without its bytes. -/
def shape (l : List BusAccess) : List (AccessKind × Word) := l.map fun e => (e.kind, e.addr)

end Sys2Proof.Machine
end

