-- ==== Sys2Proof/Certificates/Slice0/Obligations.lean ====
section
/-! DEFINITION. The statements for the provers. -/

namespace Sys2Proof.Machine

/-! ## The shapes the statements share -/

/-- The instructions of a mnemonic are exactly these rows: opcode, format, base cycles, and whether a page
crossing costs a cycle (the Encoding of an instruction rule, R13). -/
def HasForms (mn : Mnemonic) (forms : List (Byte × Format × Nat × Bool)) : Prop :=
  (∀ i : Instr, i.mnemonic = mn → (i.opcode, i.format, i.row.baseCycles, i.row.pageCrossPenalty) ∈ forms) ∧
  (∀ f ∈ forms, ∃ i : Instr, i.mnemonic = mn ∧ i.opcode = f.1)

/-- The discarded reads before the operand access of the read class, by address: the resolver's, then `U`
where the index crosses a page (R143). -/
def readLead (m : MemOperand) (s : State) : List (AccessKind × Word) :=
  (pointerReads m s).map readAt ++ (if (resolve m s).crossed then [readAt (resolve m s).u] else [])

/-- The discarded reads before the operand access of the write and read-modify-write classes, by address: the
resolver's, then `U` where the mode is indexed (R144, R145). -/
def writeLead (m : MemOperand) (s : State) : List (AccessKind × Word) :=
  (pointerReads m s).map readAt ++ (if (resolve m s).indexed then [readAt (resolve m s).u] else [])

/-- The accesses of a read-class instruction after its bytes are fetched, by address; one without an operand
reads at PC and discards the byte (R131, R143). -/
def readAccesses (i : Instr) (s : State) : List (AccessKind × Word) :=
  match i.operand with
  | .mem m => readLead m s ++ [readAt (resolve m s).ea]
  | .implied | .accumulator => [readAt s.pc]
  | .immediate _ | .target _ | .targetLow _ | .pointer _ | .offset _ => []

/-- A read-class instruction completes: `effect` gives all registers from `M` and the registers before;
nothing is stored; its accesses are those of its mode, in order, the last of them the read of `M`; it takes
the table's cycles. -/
def ReadRule (mn : Mnemonic) (forms : List (Byte × Format × Nat × Bool)) (effect : Byte → Regs → Regs) : Prop :=
  HasForms mn forms ∧ ∀ (i : Instr) (s : State), i.mnemonic = mn →
    ∃ t l, exec i s = .next t ∧ t.regs = effect (operandValue i s) s.regs ∧ Stores s t [] ∧ RanWith s t l ∧
      shape l = readAccesses i s ∧ l.length = accessesLeft i s ∧
      (∀ m, i.operand = .mem m → l.getLast? = some (rd (resolve m s).ea (operandValue i s)))

/-- A write-class instruction completes: no register changes; `value` of the registers is stored at the
effective address and nothing else is; its accesses are those of its mode, in order, the last of them that
write; it takes the table's cycles. -/
def WriteRule (mn : Mnemonic) (forms : List (Byte × Format × Nat × Bool)) (value : Regs → Byte) : Prop :=
  HasForms mn forms ∧ ∀ (i : Instr) (s : State), i.mnemonic = mn → s.StorageOk →
    ∃ m t l, i.operand = .mem m ∧ exec i s = .next t ∧ t.regs = s.regs ∧
      Stores s t [((resolve m s).ea, value s.regs)] ∧
      RanWith s t (l ++ [wr (resolve m s).ea (value s.regs)]) ∧ shape l = writeLead m s ∧
      l.length + 1 = accessesLeft i s

/-- A read-modify-write instruction with a memory operand completes: `result` gives R from the carry and M;
`effect` gives all registers from M, R and the registers before; its accesses are those of its mode, in order,
the last three the read of M and the writes of M, then R, to the effective address; nothing else is stored; it
takes the table's cycles. -/
def ModifyRule (mn : Mnemonic) (result : Bool → Byte → Byte) (effect : Byte → Byte → Regs → Regs) : Prop :=
  ∀ (i : Instr) (s : State) (m : MemOperand), i.mnemonic = mn → i.operand = .mem m → s.StorageOk →
    ∃ t l, exec i s = .next t ∧
      t.regs = effect (modifyValue m s) (result s.p.c (modifyValue m s)) s.regs ∧
      Stores s t [((resolve m s).ea, modifyValue m s), ((resolve m s).ea, result s.p.c (modifyValue m s))] ∧
      RanWith s t (l ++ [rd (resolve m s).ea (modifyValue m s), wr (resolve m s).ea (modifyValue m s),
        wr (resolve m s).ea (result s.p.c (modifyValue m s))]) ∧
      shape l = writeLead m s ∧ l.length + 3 = accessesLeft i s

/-- An implied or accumulator instruction completes with one access, the discarded read at PC. -/
def ImpliedRule (mn : Mnemonic) (f : Format) (effect : Regs → Regs) : Prop :=
  ∀ (i : Instr) (s : State), i.mnemonic = mn → i.format = f →
    ∃ t, exec i s = .next t ∧ t.regs = effect s.regs ∧ Stores s t [] ∧ RanWith s t [rd s.pc (s.peek s.pc)]

/-- As `ImpliedRule` for a mnemonic whose one row is implied and takes two cycles. -/
def PlainRule (mn : Mnemonic) (opcode : Byte) (effect : Regs → Regs) : Prop :=
  HasForms mn [(opcode, .implied, 2, false)] ∧ ImpliedRule mn .implied effect

/-- A conditional branch completes (R300): PC moves when the condition holds, every other register stays,
nothing is stored. -/
def BranchRule (mn : Mnemonic) (opcode : Byte) (cond : Flags → Bool) : Prop :=
  HasForms mn [(opcode, .relative, 2, false)] ∧ ∀ (i : Instr) (s : State), i.mnemonic = mn →
    ∃ off t, i.operand = .offset off ∧ exec i s = .next t ∧ Stores s t [] ∧
      (cond s.p = false → t.regs = s.regs ∧ RanWith s t []) ∧
      (cond s.p = true → (t.pc.toNat : Int) = ((s.pc.toNat : Int) + off.toInt) % 65536 ∧
        t.regs = { s.regs with pc := t.pc } ∧
        ∃ l, RanWith s t l ∧ shape l = (.read, s.pc) ::
          (if t.pc.toNat / 256 = s.pc.toNat / 256 then [] else [(.read, cat (hi s.pc) (lo t.pc))]))

/-- `A <- AddCarry(A, m, P.C); NZ(A)` in numbers (R220). -/
def addEffect (m : Byte) (q : Regs) : Regs :=
  let sum := q.a.toNat + m.toNat + q.p.c.toNat
  let res : Byte := BitVec.ofNat 8 (sum % 256)
  { q with
    a := res
    p := nzFlags { q.p with c := decide (256 ≤ sum), v := decide (q.a.msb = m.msb ∧ res.msb ≠ q.a.msb) } res }

/-- `Compare(reg, m)` in numbers (R221). -/
def compareFlags (p : Flags) (reg m : Byte) : Flags :=
  { p with
    c := decide (m.toNat ≤ reg.toNat)
    z := decide (reg = m)
    n := decide (128 ≤ (reg.toNat + 256 - m.toNat) % 256) }

/-- The results of the shifts and rotates in numbers (R222). -/
def aslValue (_ : Bool) (m : Byte) : Byte := BitVec.ofNat 8 (2 * m.toNat)
/-- See `aslValue`. -/
def lsrValue (_ : Bool) (m : Byte) : Byte := BitVec.ofNat 8 (m.toNat / 2)
/-- See `aslValue`. -/
def rolValue (c : Bool) (m : Byte) : Byte := BitVec.ofNat 8 (2 * m.toNat + c.toNat)
/-- See `aslValue`. -/
def rorValue (c : Bool) (m : Byte) : Byte := BitVec.ofNat 8 (m.toNat / 2 + 128 * c.toNat)

/-- The bit a left shift moves out, `m[7]`, becomes C (R222). -/
def highOut (m : Byte) (q : Regs) : Regs := { q with p := { q.p with c := decide (128 ≤ m.toNat) } }

/-- The bit a right shift moves out, `m[0]`, becomes C (R222). -/
def lowOut (m : Byte) (q : Regs) : Regs := { q with p := { q.p with c := decide (m.toNat % 2 = 1) } }

/-- `NZ(v)`. -/
def setNZ (v : Byte) (q : Regs) : Regs := { q with p := nzFlags q.p v }

/-- `A <- v; NZ(A)`. -/
def setA (v : Byte) (q : Regs) : Regs := { q with a := v, p := nzFlags q.p v }

/-- `X <- v; NZ(X)`. -/
def setX (v : Byte) (q : Regs) : Regs := { q with x := v, p := nzFlags q.p v }

/-- `Y <- v; NZ(Y)`. -/
def setY (v : Byte) (q : Regs) : Regs := { q with y := v, p := nzFlags q.p v }

/-- An unstable store completes (R367): `value` of the registers AND the base's high byte plus one is
written, at the effective address or, where the index crosses a page, in the page of that byte; `after`
gives the registers. -/
def UnstableRule (mn : Mnemonic) (forms : List (Byte × Format × Nat × Bool)) (value : Regs → Byte)
    (after : Regs → Regs) : Prop :=
  HasForms mn forms ∧ ∀ (i : Instr) (s : State), i.mnemonic = mn → s.StorageOk →
    ∃ m t v addr l, i.operand = .mem m ∧ exec i s = .next t ∧ t.regs = after s.regs ∧
      v = value s.regs &&& (hi (resolve m s).base + 1) ∧
      addr = (if hi (resolve m s).ea ≠ hi (resolve m s).base then cat v (lo (resolve m s).ea) else (resolve m s).ea) ∧
      Stores s t [(addr, v)] ∧
      RanWith s t (l ++ [rd (resolve m s).u ((resolveState m s).peek (resolve m s).u), wr addr v]) ∧
      shape l = (pointerReads m s).map readAt ∧ l.length + 2 = accessesLeft i s

/-- What an entry of an interrupt or of BRK does with its discarded reads `first`, for the return address `ret`,
the bit B and the vector `vec` (R407). -/
def Enters (s t : State) (first : List (AccessKind × Word)) (ret : Word) (brk : Bool) (vec : Word) : Prop :=
  ∃ d l h, s.stored vec = some l ∧ s.stored (vec + 1) = some h ∧
    t.regs = { s.regs with sp := s.sp - 3, p := { s.p with i := true }, pc := cat h l } ∧
    t.trace = s.trace ++ d ++ [wr (cat 1 s.sp) (hi ret), wr (cat 1 (s.sp - 1)) (lo ret),
      wr (cat 1 (s.sp - 2)) (s.p.pushImage brk), rd vec l, rd (vec + 1) h] ∧
    shape d = first ∧ t.busLatch = h ∧
    t.hookReads = s.hookReads.drop (s.windowReads d) ∧ t.hookCount = s.hookCount + s.windowReads d ∧
    Stores s t [(cat 1 s.sp, hi ret), (cat 1 (s.sp - 1), lo ret), (cat 1 (s.sp - 2), s.p.pushImage brk)] ∧
    t.prgRom = s.prgRom ∧ t.prgRam = s.prgRam

/-- The interrupt inputs after the calls of the next `n` accesses (R421). -/
def linesAfter (s : State) (n : Nat) : Lines := s.lines.signals (s.ticks.take n).flatten

/-- The byte of a byte array given by (offset, value) pairs: the last pair of the offset counts, and an offset
not given holds zero (the model's form of the arrays, log entry 12). -/
def arrayByte (bytes : List (Nat × Byte)) (offset : Nat) : Byte :=
  ((bytes.reverse.find? fun b => decide (b.1 = offset)).map Prod.snd).getD 0

/-- No interrupt input asserted: the lines at power-up (R46). -/
def quietLines : Lines := { nmiLine := false, nmiPending := false, irqLine := false, resetPending := false }

/-- The condition of R72 on a declared cartridge. -/
def ValidCartridge (c : Cartridge) : Prop :=
  ∃ rom, c.prgRomSize = some rom ∧ (rom = 16384 ∨ rom = 32768) ∧
    (c.prgRamSize = 0 ∨ c.prgRamSize = 2048 ∨ c.prgRamSize = 4096 ∨ c.prgRamSize = 8192) ∧
    c.ppuHook = true ∧ c.apuIoHook = true ∧
    (∀ b ∈ c.prgRom, b.1 < rom) ∧ (∀ b ∈ c.prgRamInit, b.1 < c.prgRamSize)

end Sys2Proof.Machine

open Sys2Proof
open Sys2Proof.Machine

/-- Decoding an encoded instruction gives it back, with every operand value. No bit of an encoding is dropped, and the decoder leaves the rest of the stream (R100, R101, R103). -/
def Obligations.DecodeOfEncodeGivesTheInstruction : Prop :=
  ∀ (i : Instr) (rest : List Byte), i.WellFormed → decode (encode i ++ rest) = .ok (i, rest)

/-- Encoding a decoded instruction gives the bytes the decoder consumed. Each byte string has one meaning: no two encodings decode to one instruction (R100, R108). -/
def Obligations.EncodeOfDecodeGivesTheBytes : Prop :=
  ∀ (bytes rest : List Byte) (i : Instr), decode bytes = .ok (i, rest) → encode i ++ rest = bytes

/-- Every opcode byte decodes to an instruction with that opcode, which runs to a next state. No encoding is reserved or traps; the decoder is total on bytes (R108, R400). -/
def Obligations.EveryOpcodeDecodesAndRuns : Prop :=
  ∀ (op b1 b2 : Byte) (s : State),
    ∃ i rest t, decode [op, b1, b2] = .ok (i, rest) ∧ i.opcode = op ∧ exec i s = .next t

/-- Sample words written from the opcode map decode to their instructions. A sanity statement over words written out from R101 and R106. That the decoder takes two bytes of JSR and leaves the third, which R101 counts in the absolute format, is the model's choice, log entry 10. -/
def Obligations.SampleWordsDecode : Prop :=
  decode [0xA9, 0x05, 0x00] = .ok (.ldaImm 0x05, [0x00]) ∧ decode [0x6C, 0xFF, 0x02] = .ok (.jmpInd 0x02FF, []) ∧
    decode [0xB1, 0x40] = .ok (.ldaIndY 0x40, []) ∧ decode [0x9D, 0xF0, 0x02] = .ok (.staAbsX 0x02F0, []) ∧
    decode [0xD0, 0xFE] = .ok (.bne 0xFE, []) ∧ decode [0x2A] = .ok (.rolA, []) ∧ decode [0xEA] = .ok (.nop, []) ∧
    decode [0x97, 0x10] = .ok (.saxZpY 0x10, []) ∧ decode [0x20, 0x10, 0x80] = .ok (.jsr 0x10, [0x80])

/-- Each row of the opcode table has the mnemonic, format and length of what its opcode decodes to. The table of R104 and R106 against the decoder. That JSR's third byte is not decoded is the model's choice, log entry 10. -/
def Obligations.OpcodeTableDescribesTheDecoder : Prop :=
  opcodeTable.length = 256 ∧ ∀ (op b1 b2 : Byte),
    (opcodeRow op).mnemonic = (decodeOp op b1 b2).mnemonic ∧ (opcodeRow op).format = (decodeOp op b1 b2).format ∧
    (opcodeRow op).bytes = (encode (decodeOp op b1 b2)).length + (if op = 0x20 then 1 else 0) ∧
    (opcodeRow op).pcAdvance = (opcodeRow op).bytes + (if op = 0x00 then 1 else 0)

/-- A step at an instruction boundary executes the instruction that storage holds at PC. The instruction case of R401 with the fetch of R25: opcode first, then the operand bytes, at consecutive addresses. All the decoded bytes are read before the instruction writes any, so it runs as fetched (R83, R454); JSR's high byte and BRK's padding byte are not among them (R310, R312, log entries 10 and 17). -/
def Obligations.StepRunsTheDecodedInstruction : Prop :=
  ∀ (s : State) (b0 b1 b2 : Byte) (i : Instr) (rest : List Byte),
    s.lines.resetPending = false → s.halted = false → s.lines.nmiPending = false →
    (s.lines.irqLine = false ∨ s.p.i = true) →
    s.stored s.pc = some b0 → s.stored (s.pc + 1) = some b1 → s.stored (s.pc + 2) = some b2 →
    decode [b0, b1, b2] = .ok (i, rest) →
    ∃ u, step s = finishOutcome (exec i u) ∧
      u.regs = { s.regs with pc := s.pc + BitVec.ofNat 16 (encode i).length } ∧ Stores s u [] ∧
      RanWith s.beginStep u ([rd s.pc b0, rd (s.pc + 1) b1, rd (s.pc + 2) b2].take (encode i).length)

/-- Every address has the owner and the canonical index of the region table. The range, region and canonical index columns of R62. -/
def Obligations.RegionTable : Prop :=
  ∀ (s : State) (addr : Word),
    (addr.toNat ≤ 0x1FFF → s.region addr = .ram (addr &&& 0x07FF).toNat) ∧
    (0x2000 ≤ addr.toNat → addr.toNat ≤ 0x3FFF → s.region addr = .ppu (addr &&& 0x0007).toNat) ∧
    (0x4000 ≤ addr.toNat → addr.toNat ≤ 0x4017 → s.region addr = .apuIo (addr.toNat - 0x4000)) ∧
    (0x4018 ≤ addr.toNat → addr.toNat ≤ 0x5FFF → s.region addr = .unmapped) ∧
    (0x6000 ≤ addr.toNat → addr.toNat ≤ 0x7FFF →
      s.region addr = match s.prgRam with
        | .absent => .unmapped
        | .k2 => .prgRam ((addr.toNat - 0x6000) % 2048)
        | .k4 => .prgRam ((addr.toNat - 0x6000) % 4096)
        | .k8 => .prgRam ((addr.toNat - 0x6000) % 8192)) ∧
    (0x8000 ≤ addr.toNat → s.region addr = match s.prgRom with
        | .k16 => .prgRom ((addr.toNat - 0x8000) % 16384)
        | .k32 => .prgRom ((addr.toNat - 0x8000) % 32768))

/-- A bus read returns storage, the hook's answer or the open-bus latch, and changes no storage. The read column of R62. The script of hook answers and the free value behind it are the model's, log entry 6. -/
def Obligations.ReadsReturnTheOwnersByte : Prop :=
  ∀ (s : State) (addr : Word),
    (s.read addr).regs = s.regs ∧ Stores s (s.read addr) [] ∧
    (∀ v, s.stored addr = some v → s.peek addr = v) ∧
    (∀ window register, (s.region addr).hook = some (window, register) →
      (∀ v rest, s.hookReads = v :: rest → s.peek addr = v ∧ (s.read addr).hookReads = rest) ∧
      (s.hookReads = [] → s.peek addr = Config.hookRead window register s.busLatch s.hookCount) ∧
      (s.read addr).hookCount = s.hookCount + 1) ∧
    (s.region addr = .unmapped → s.peek addr = s.busLatch ∧ (s.read addr).busLatch = s.busLatch)

/-- A bus write stores in RAM or PRG-RAM and nowhere else. The write column of R62. -/
def Obligations.WritesReachOnlyTheOwnersCell : Prop :=
  ∀ (s : State) (addr : Word) (v : Byte), s.StorageOk →
    (s.write addr v).regs = s.regs ∧
    (∀ k b, s.region addr = .ram k ∨ s.region addr = .prgRam k →
      (s.write addr v).stored b = if s.region b = s.region addr then some v else s.stored b) ∧
    ((∀ k, s.region addr ≠ .ram k ∧ s.region addr ≠ .prgRam k) → (s.write addr v).mem = s.mem)

/-- The latch takes the byte of every read and of every write. R70. -/
def Obligations.LatchTakesEveryByteDriven : Prop :=
  ∀ (s : State) (addr : Word) (v : Byte),
    (s.read addr).busLatch = s.peek addr ∧ (s.write addr v).busLatch = v

/-- A write at one mirror is read at every other; every mirror of a window has one register index. R73, with the mirror periods of R63, R64 and R67. -/
def Obligations.MirrorsAreOneLocation : Prop :=
  ∀ (s : State) (a b : Word) (v : Byte), s.StorageOk →
    (a.toNat < 0x2000 → b.toNat < 0x2000 → a.toNat % 0x800 = b.toNat % 0x800 → (s.write a v).peek b = v) ∧
    (0x6000 ≤ a.toNat → a.toNat < 0x8000 → 0x6000 ≤ b.toNat → b.toNat < 0x8000 → 0 < ramBytes s.prgRam →
      (a.toNat - 0x6000) % ramBytes s.prgRam = (b.toNat - 0x6000) % ramBytes s.prgRam → (s.write a v).peek b = v) ∧
    (0x2000 ≤ a.toNat → a.toNat < 0x4000 → (s.region a).hook = some (.ppu, a.toNat % 8)) ∧
    (0x4000 ≤ a.toNat → a.toNat < 0x4018 → (s.region a).hook = some (.apuIo, a.toNat - 0x4000))

/-- Push and Pull address page 1 and wrap within it. R78. -/
def Obligations.StackWrapsInPageOne : Prop :=
  ∀ (s : State) (v : Byte), s.StorageOk →
    s.region (cat 1 s.sp) = .ram (0x100 + s.sp.toNat) ∧
    (s.push v).regs = { s.regs with sp := BitVec.ofNat 8 (s.sp.toNat + 255) } ∧
    Stores s (s.push v) [(cat 1 s.sp, v)] ∧ RanWith s (s.push v) [wr (cat 1 s.sp) v] ∧
    s.pull.regs = { s.regs with sp := BitVec.ofNat 8 (s.sp.toNat + 1) } ∧
    s.stored (cat 1 (s.sp + 1)) = some s.peekPull ∧
    Stores s s.pull [] ∧ RanWith s s.pull [rd (cat 1 (s.sp + 1)) s.peekPull]

/-- Read16 reads the next address second; Read16Wrap stays in the page. The pseudocode of R74 and R75. -/
def Obligations.WordReadsTakeTheLowByteFirst : Prop :=
  ∀ (s : State) (addr : Word),
    shape (s.read16 addr).trace = shape s.trace ++ [readAt addr, readAt (BitVec.ofNat 16 (addr.toNat + 1))] ∧
    shape (s.read16Wrap addr).trace =
      shape s.trace ++ [readAt addr, readAt (BitVec.ofNat 16 (addr.toNat / 256 * 256 + (addr.toNat + 1) % 256))] ∧
    (∀ l h, s.stored addr = some l → s.stored (addr + 1) = some h → (s.peek16 addr).toNat = h.toNat * 256 + l.toNat) ∧
    (∀ l h, s.stored addr = some l → s.stored (cat (hi addr) (lo addr + 1)) = some h →
      (s.peek16Wrap addr).toNat = h.toNat * 256 + l.toNat)

/-- The effective address, the unfixed address and the page crossing of every mode. The address computations of R134 to R139 and the crossing test of R142. -/
def Obligations.EffectiveAddresses : Prop :=
  ∀ (s : State) (z : Byte) (addr : Word),
    (resolve (.zp z) s).ea.toNat = z.toNat ∧
    (resolve (.zpX z) s).ea.toNat = (z.toNat + s.x.toNat) % 256 ∧
    (resolve (.zpY z) s).ea.toNat = (z.toNat + s.y.toNat) % 256 ∧
    (resolve (.abs addr) s).ea = addr ∧
    (resolve (.absX addr) s).base = addr ∧ (resolve (.absY addr) s).base = addr ∧
    (resolve (.absX addr) s).ea.toNat = (addr.toNat + s.x.toNat) % 65536 ∧
    (resolve (.absY addr) s).ea.toNat = (addr.toNat + s.y.toNat) % 65536 ∧
    (resolve (.indX z) s).ea.toNat =
      (Memory.read s.mem ((z.toNat + s.x.toNat + 1) % 256)).toNat * 256
        + (Memory.read s.mem ((z.toNat + s.x.toNat) % 256)).toNat ∧
    (resolve (.indY z) s).base.toNat =
      (Memory.read s.mem ((z.toNat + 1) % 256)).toNat * 256 + (Memory.read s.mem z.toNat).toNat ∧
    (resolve (.indY z) s).ea.toNat = ((resolve (.indY z) s).base.toNat + s.y.toNat) % 65536 ∧
    (∀ m : MemOperand, (resolve m s).indexed = true →
      (resolve m s).u.toNat = (resolve m s).base.toNat / 256 * 256 + (resolve m s).ea.toNat % 256 ∧
      ((resolve m s).crossed = true ↔ (resolve m s).ea.toNat / 256 ≠ (resolve m s).base.toNat / 256)) ∧
    (∀ m : MemOperand, (resolve m s).indexed = true ↔
      m.format = .absoluteX ∨ m.format = .absoluteY ∨ m.format = .indirectIndexedY) ∧
    (∀ m : MemOperand, (resolve m s).indexed = false → (resolve m s).crossed = false)

/-- The order of the accesses of the read, write and read-modify-write classes, dummy accesses included. The access sequences of R146. -/
def Obligations.OperandAccessesComeInOrder : Prop :=
  ∀ (m : MemOperand) (s : State) (v : Byte),
    shape (loadState m s).trace = shape s.trace ++ (pointerReads m s).map readAt ++
      (if (resolve m s).crossed then [readAt (resolve m s).u] else []) ++ [readAt (resolve m s).ea] ∧
    shape (writeClass m v s).trace = shape s.trace ++ (pointerReads m s).map readAt ++
      (if (resolve m s).indexed then [readAt (resolve m s).u] else []) ++ [writeAt (resolve m s).ea] ∧
    shape (modifyState m v s).trace = shape s.trace ++ (pointerReads m s).map readAt ++
      (if (resolve m s).indexed then [readAt (resolve m s).u] else []) ++
      [readAt (resolve m s).ea, writeAt (resolve m s).ea, writeAt (resolve m s).ea]

/-- LDA, LDX, LDY, LAX and LAS write the operand to their registers and set N and Z from it. R200 to R202, R335, R372. -/
def Obligations.LoadsTakeTheOperand : Prop :=
  ReadRule .LDA
    [(0xA1, .indexedIndirectX, 6, false), (0xA5, .zeropage, 3, false), (0xA9, .immediate, 2, false),
     (0xAD, .absolute, 4, false), (0xB1, .indirectIndexedY, 5, true), (0xB5, .zeropageX, 4, false),
     (0xB9, .absoluteY, 4, true), (0xBD, .absoluteX, 4, true)]
    (fun m q => setA m q) ∧
  ReadRule .LDX
    [(0xA2, .immediate, 2, false), (0xA6, .zeropage, 3, false), (0xAE, .absolute, 4, false),
     (0xB6, .zeropageY, 4, false), (0xBE, .absoluteY, 4, true)]
    (fun m q => setX m q) ∧
  ReadRule .LDY
    [(0xA0, .immediate, 2, false), (0xA4, .zeropage, 3, false), (0xAC, .absolute, 4, false),
     (0xB4, .zeropageX, 4, false), (0xBC, .absoluteX, 4, true)]
    (fun m q => setY m q) ∧
  ReadRule .LAX
    [(0xA3, .indexedIndirectX, 6, false), (0xA7, .zeropage, 3, false), (0xAF, .absolute, 4, false),
     (0xB3, .indirectIndexedY, 5, true), (0xB7, .zeropageY, 4, false), (0xBF, .absoluteY, 4, true)]
    (fun m q => setA m { q with x := m }) ∧
  ReadRule .LAS
    [(0xBB, .absoluteY, 4, true)]
    (fun m q => setA (m &&& q.sp) { q with x := m &&& q.sp, sp := m &&& q.sp })

/-- STA, STX, STY and SAX store their value at the effective address and change no register or flag. R203 to R205, R334. -/
def Obligations.StoresWriteTheRegister : Prop :=
  WriteRule .STA
    [(0x81, .indexedIndirectX, 6, false), (0x85, .zeropage, 3, false), (0x8D, .absolute, 4, false),
     (0x91, .indirectIndexedY, 6, false), (0x95, .zeropageX, 4, false), (0x99, .absoluteY, 5, false),
     (0x9D, .absoluteX, 5, false)]
    (fun q => q.a) ∧
  WriteRule .STX
    [(0x86, .zeropage, 3, false), (0x8E, .absolute, 4, false), (0x96, .zeropageY, 4, false)]
    (fun q => q.x) ∧
  WriteRule .STY
    [(0x84, .zeropage, 3, false), (0x8C, .absolute, 4, false), (0x94, .zeropageX, 4, false)]
    (fun q => q.y) ∧
  WriteRule .SAX
    [(0x83, .indexedIndirectX, 6, false), (0x87, .zeropage, 3, false), (0x8F, .absolute, 4, false),
     (0x97, .zeropageY, 4, false)]
    (fun q => q.a &&& q.x)

/-- TAX, TAY, TXA, TYA, TSX set N and Z from the byte copied; TXS sets no flag. R206 to R211. -/
def Obligations.TransfersCopyARegister : Prop :=
  PlainRule .TAX 0xAA (fun q => setX q.a q) ∧
  PlainRule .TAY 0xA8 (fun q => setY q.a q) ∧
  PlainRule .TXA 0x8A (fun q => setA q.x q) ∧
  PlainRule .TYA 0x98 (fun q => setA q.y q) ∧
  PlainRule .TSX 0xBA (fun q => setX q.sp q) ∧
  PlainRule .TXS 0x9A (fun q => { q with sp := q.x })

/-- ADC, SBC and USBC: result, carry and signed overflow, in every mode and whatever D is. R220, R230, R231, R366; the integer clauses are section 4 of 95_test_vectors.md. -/
def Obligations.AddAndSubtractAreExact : Prop :=
  ReadRule .ADC
    [(0x61, .indexedIndirectX, 6, false), (0x65, .zeropage, 3, false), (0x69, .immediate, 2, false),
     (0x6D, .absolute, 4, false), (0x71, .indirectIndexedY, 5, true), (0x75, .zeropageX, 4, false),
     (0x79, .absoluteY, 4, true), (0x7D, .absoluteX, 4, true)]
    (fun m q => addEffect m q) ∧
  ReadRule .SBC
    [(0xE1, .indexedIndirectX, 6, false), (0xE5, .zeropage, 3, false), (0xE9, .immediate, 2, false),
     (0xED, .absolute, 4, false), (0xF1, .indirectIndexedY, 5, true), (0xF5, .zeropageX, 4, false),
     (0xF9, .absoluteY, 4, true), (0xFD, .absoluteX, 4, true)]
    (fun m q => addEffect (255 - m) q) ∧
  ReadRule .USBC
    [(0xEB, .immediate, 2, false)]
    (fun m q => addEffect (255 - m) q) ∧
  ∀ (m : Byte) (q : Regs),
    ((addEffect m q).a.toNat = (q.a.toNat + m.toNat + q.p.c.toNat) % 256 ∧
      ((addEffect m q).p.v = true ↔
        q.a.toInt + m.toInt + q.p.c.toNat < -128 ∨ 127 < q.a.toInt + m.toInt + q.p.c.toNat)) ∧
    (((addEffect (255 - m) q).a.toNat : Int) = ((q.a.toNat : Int) - m.toNat - (1 - q.p.c.toNat)) % 256 ∧
      ((addEffect (255 - m) q).p.c = true ↔ (0 : Int) ≤ (q.a.toNat : Int) - m.toNat - (1 - q.p.c.toNat)) ∧
      ((addEffect (255 - m) q).p.v = true ↔
        q.a.toInt - m.toInt - (1 - q.p.c.toNat) < -128 ∨ 127 < q.a.toInt - m.toInt - (1 - q.p.c.toNat)))

/-- AND, ORA and EOR combine A with the operand and set N and Z. R232 to R234. -/
def Obligations.LogicCombinesWithTheAccumulator : Prop :=
  ReadRule .AND
    [(0x21, .indexedIndirectX, 6, false), (0x25, .zeropage, 3, false), (0x29, .immediate, 2, false),
     (0x2D, .absolute, 4, false), (0x31, .indirectIndexedY, 5, true), (0x35, .zeropageX, 4, false),
     (0x39, .absoluteY, 4, true), (0x3D, .absoluteX, 4, true)]
    (fun m q => setA (q.a &&& m) q) ∧
  ReadRule .ORA
    [(0x01, .indexedIndirectX, 6, false), (0x05, .zeropage, 3, false), (0x09, .immediate, 2, false),
     (0x0D, .absolute, 4, false), (0x11, .indirectIndexedY, 5, true), (0x15, .zeropageX, 4, false),
     (0x19, .absoluteY, 4, true), (0x1D, .absoluteX, 4, true)]
    (fun m q => setA (q.a ||| m) q) ∧
  ReadRule .EOR
    [(0x41, .indexedIndirectX, 6, false), (0x45, .zeropage, 3, false), (0x49, .immediate, 2, false),
     (0x4D, .absolute, 4, false), (0x51, .indirectIndexedY, 5, true), (0x55, .zeropageX, 4, false),
     (0x59, .absoluteY, 4, true), (0x5D, .absoluteX, 4, true)]
    (fun m q => setA (q.a ^^^ m) q)

/-- CMP, CPX, CPY and BIT write only the flags their rules name. R221, R235 to R238. -/
def Obligations.ComparesWriteOnlyFlags : Prop :=
  ReadRule .CMP
    [(0xC1, .indexedIndirectX, 6, false), (0xC5, .zeropage, 3, false), (0xC9, .immediate, 2, false),
     (0xCD, .absolute, 4, false), (0xD1, .indirectIndexedY, 5, true), (0xD5, .zeropageX, 4, false),
     (0xD9, .absoluteY, 4, true), (0xDD, .absoluteX, 4, true)]
    (fun m q => { q with p := compareFlags q.p q.a m }) ∧
  ReadRule .CPX
    [(0xE0, .immediate, 2, false), (0xE4, .zeropage, 3, false), (0xEC, .absolute, 4, false)]
    (fun m q => { q with p := compareFlags q.p q.x m }) ∧
  ReadRule .CPY
    [(0xC0, .immediate, 2, false), (0xC4, .zeropage, 3, false), (0xCC, .absolute, 4, false)]
    (fun m q => { q with p := compareFlags q.p q.y m }) ∧
  ReadRule .BIT
    [(0x24, .zeropage, 3, false), (0x2C, .absolute, 4, false)]
    (fun m q => { q with p := { q.p with z := decide (q.a &&& m = 0), n := decide (128 ≤ m.toNat), v := decide (64 ≤ m.toNat % 128) } })

/-- INC, DEC, ASL, LSR, ROL and ROR on memory write the old byte, then the result, and set their flags. The memory forms of R239, R240 and R245 to R248. -/
def Obligations.MemoryModifyWritesTheResult : Prop :=
  HasForms .INC
    [(0xE6, .zeropage, 5, false), (0xEE, .absolute, 6, false), (0xF6, .zeropageX, 6, false),
     (0xFE, .absoluteX, 7, false)] ∧
  ModifyRule .INC (fun _ m => m + 1) (fun _ r q => setNZ r q) ∧
  HasForms .DEC
    [(0xC6, .zeropage, 5, false), (0xCE, .absolute, 6, false), (0xD6, .zeropageX, 6, false),
     (0xDE, .absoluteX, 7, false)] ∧
  ModifyRule .DEC (fun _ m => m - 1) (fun _ r q => setNZ r q) ∧
  ModifyRule .ASL aslValue (fun m r q => setNZ r (highOut m q)) ∧
  ModifyRule .LSR lsrValue (fun m r q => setNZ r (lowOut m q)) ∧
  ModifyRule .ROL rolValue (fun m r q => setNZ r (highOut m q)) ∧
  ModifyRule .ROR rorValue (fun m r q => setNZ r (lowOut m q))

/-- ASL A, LSR A, ROL A and ROR A, and the rows of the four shifts. The accumulator forms and the encodings of R245 to R248. -/
def Obligations.AccumulatorShifts : Prop :=
  HasForms .ASL
    [(0x06, .zeropage, 5, false), (0x0A, .accumulator, 2, false), (0x0E, .absolute, 6, false),
     (0x16, .zeropageX, 6, false), (0x1E, .absoluteX, 7, false)] ∧
  ImpliedRule .ASL .accumulator (fun q => setA (aslValue q.p.c q.a) (highOut q.a q)) ∧
  HasForms .LSR
    [(0x46, .zeropage, 5, false), (0x4A, .accumulator, 2, false), (0x4E, .absolute, 6, false),
     (0x56, .zeropageX, 6, false), (0x5E, .absoluteX, 7, false)] ∧
  ImpliedRule .LSR .accumulator (fun q => setA (lsrValue q.p.c q.a) (lowOut q.a q)) ∧
  HasForms .ROL
    [(0x26, .zeropage, 5, false), (0x2A, .accumulator, 2, false), (0x2E, .absolute, 6, false),
     (0x36, .zeropageX, 6, false), (0x3E, .absoluteX, 7, false)] ∧
  ImpliedRule .ROL .accumulator (fun q => setA (rolValue q.p.c q.a) (highOut q.a q)) ∧
  HasForms .ROR
    [(0x66, .zeropage, 5, false), (0x6A, .accumulator, 2, false), (0x6E, .absolute, 6, false),
     (0x76, .zeropageX, 6, false), (0x7E, .absoluteX, 7, false)] ∧
  ImpliedRule .ROR .accumulator (fun q => setA (rorValue q.p.c q.a) (lowOut q.a q))

/-- INX, INY, DEX and DEY step their register modulo 256 and set N and Z. R241 to R244. -/
def Obligations.IndexStepsWrap : Prop :=
  PlainRule .INX 0xE8 (fun q => setX (BitVec.ofNat 8 (q.x.toNat + 1)) q) ∧
  PlainRule .INY 0xC8 (fun q => setY (BitVec.ofNat 8 (q.y.toNat + 1)) q) ∧
  PlainRule .DEX 0xCA (fun q => setX (BitVec.ofNat 8 (q.x.toNat + 255)) q) ∧
  PlainRule .DEY 0x88 (fun q => setY (BitVec.ofNat 8 (q.y.toNat + 255)) q)

/-- PHA pushes A and PHP pushes the status image with bits 5 and 4 set; only S changes. R270, R271. -/
def Obligations.PushInstructions : Prop :=
  HasForms .PHA [(0x48, .implied, 3, false)] ∧
  HasForms .PHP [(0x08, .implied, 3, false)] ∧
  ∀ (i : Instr) (s : State) (v : Byte), s.StorageOk →
    (i.mnemonic = .PHA ∧ v = s.a ∨ i.mnemonic = .PHP ∧ v = s.p.pbyte ||| 0x30) →
    ∃ t, exec i s = .next t ∧ t.regs = { s.regs with sp := s.sp - 1 } ∧ Stores s t [(cat 1 s.sp, v)] ∧
      RanWith s t [rd s.pc (s.peek s.pc), wr (cat 1 s.sp) v]

/-- PLA pulls A and sets N and Z; PLP pulls every stored flag and ignores bits 5 and 4. R272, R273. -/
def Obligations.PullInstructions : Prop :=
  HasForms .PLA [(0x68, .implied, 4, false)] ∧
  HasForms .PLP [(0x28, .implied, 4, false)] ∧
  ∀ (i : Instr) (s : State), i.mnemonic = .PLA ∨ i.mnemonic = .PLP →
    ∃ t v l, exec i s = .next t ∧ s.stored (cat 1 (s.sp + 1)) = some v ∧
      t.regs = (if i.mnemonic = .PLA then setA v { s.regs with sp := s.sp + 1 }
        else { s.regs with sp := s.sp + 1, p :=
          { n := v.getLsbD 7, v := v.getLsbD 6, d := v.getLsbD 3, i := v.getLsbD 2, z := v.getLsbD 1, c := v.getLsbD 0 } }) ∧
      Stores s t [] ∧ RanWith s t l ∧
      shape l = [(.read, s.pc), (.read, cat 1 s.sp), (.read, cat 1 (s.sp + 1))] ∧ t.busLatch = v

/-- CLC, SEC, CLI, SEI, CLD, SED and CLV each write exactly one flag. R274 to R280. -/
def Obligations.FlagInstructions : Prop :=
  PlainRule .CLC 0x18 (fun q => { q with p := { q.p with c := false } }) ∧
  PlainRule .SEC 0x38 (fun q => { q with p := { q.p with c := true } }) ∧
  PlainRule .CLI 0x58 (fun q => { q with p := { q.p with i := false } }) ∧
  PlainRule .SEI 0x78 (fun q => { q with p := { q.p with i := true } }) ∧
  PlainRule .CLD 0xD8 (fun q => { q with p := { q.p with d := false } }) ∧
  PlainRule .SED 0xF8 (fun q => { q with p := { q.p with d := true } }) ∧
  PlainRule .CLV 0xB8 (fun q => { q with p := { q.p with v := false } })

/-- The 28 NOP forms change no register, flag or stored byte and make the accesses of their mode. R281, R373, R374. -/
def Obligations.NopsOnlyAccess : Prop :=
  ReadRule .NOP
    [(0x04, .zeropage, 3, false), (0x0C, .absolute, 4, false), (0x14, .zeropageX, 4, false),
     (0x1A, .implied, 2, false), (0x1C, .absoluteX, 4, true), (0x34, .zeropageX, 4, false),
     (0x3A, .implied, 2, false), (0x3C, .absoluteX, 4, true), (0x44, .zeropage, 3, false),
     (0x54, .zeropageX, 4, false), (0x5A, .implied, 2, false), (0x5C, .absoluteX, 4, true),
     (0x64, .zeropage, 3, false), (0x74, .zeropageX, 4, false), (0x7A, .implied, 2, false),
     (0x7C, .absoluteX, 4, true), (0x80, .immediate, 2, false), (0x82, .immediate, 2, false),
     (0x89, .immediate, 2, false), (0xC2, .immediate, 2, false), (0xD4, .zeropageX, 4, false),
     (0xDA, .implied, 2, false), (0xDC, .absoluteX, 4, true), (0xE2, .immediate, 2, false),
     (0xEA, .implied, 2, false), (0xF4, .zeropageX, 4, false), (0xFA, .implied, 2, false),
     (0xFC, .absoluteX, 4, true)]
    (fun _ q => q) ∧
  ImpliedRule .NOP .implied (fun q => q) ∧
  ∀ (i : Instr) (s : State) (m : MemOperand), i.mnemonic = .NOP → i.operand = .mem m → exec i s = .next (loadState m s)

/-- The eight branches move PC by the signed offset exactly when their flag has the value they test. R300 to R308. -/
def Obligations.BranchesMoveOnlyPc : Prop :=
  BranchRule .BPL 0x10 (fun p => !p.n) ∧
  BranchRule .BMI 0x30 (fun p => p.n) ∧
  BranchRule .BVC 0x50 (fun p => !p.v) ∧
  BranchRule .BVS 0x70 (fun p => p.v) ∧
  BranchRule .BCC 0x90 (fun p => !p.c) ∧
  BranchRule .BCS 0xB0 (fun p => p.c) ∧
  BranchRule .BNE 0xD0 (fun p => !p.z) ∧
  BranchRule .BEQ 0xF0 (fun p => p.z)

/-- JMP loads PC from its operand or from a pointer read within its page. R309. -/
def Obligations.JumpsLoadPc : Prop :=
  HasForms .JMP [(0x4C, .absolute, 3, false), (0x6C, .absoluteIndirect, 5, false)] ∧
  (∀ (s : State) (addr : Word), ∃ t, exec (.jmpAbs addr) s = .next t ∧ t.regs = { s.regs with pc := addr } ∧
    Stores s t [] ∧ RanWith s t []) ∧
  (∀ (s : State) (ptr : Word), ∃ t l, exec (.jmpInd ptr) s = .next t ∧ t.regs = { s.regs with pc := t.pc } ∧
    Stores s t [] ∧ RanWith s t l ∧ shape l = [(.read, ptr), (.read, cat (hi ptr) (lo ptr + 1))] ∧
    (∀ a b, l.map BusAccess.data = [a, b] → t.pc = cat b a) ∧
    (∀ a b, s.stored ptr = some a → s.stored (cat (hi ptr) (lo ptr + 1)) = some b → t.pc = cat b a))

/-- JSR pushes the address of its last byte, high byte first, and reads the target's high byte after the pushes. R310, its corner case included; the general sentences of R83 and R454 say otherwise of JSR's high byte, log entry 17. -/
def Obligations.JsrPushesTheReturnAddress : Prop :=
  HasForms .JSR [(0x20, .absolute, 6, false)] ∧
  ∀ (s : State) (l : Byte), s.StorageOk →
    ∃ t v h, exec (.jsr l) s = .next t ∧ t.regs = { s.regs with sp := s.sp - 2, pc := cat h l } ∧
      Stores s t [(cat 1 s.sp, hi s.pc), (cat 1 (s.sp - 1), lo s.pc)] ∧
      RanWith s t [rd (cat 1 s.sp) v, wr (cat 1 s.sp) (hi s.pc), wr (cat 1 (s.sp - 1)) (lo s.pc), rd s.pc h] ∧
      (∀ b, t.stored s.pc = some b → h = b) ∧
      (s.pc = cat 1 s.sp → h = hi s.pc) ∧ (s.pc = cat 1 (s.sp - 1) → h = lo s.pc) ∧
      (∀ b, s.stored s.pc = some b → s.aliases (cat 1 s.sp) s.pc = false → s.aliases (cat 1 (s.sp - 1)) s.pc = false →
        h = b)

/-- RTS pulls PC, low byte first, and adds one. R311. -/
def Obligations.RtsPullsTheReturnAddress : Prop :=
  HasForms .RTS [(0x60, .implied, 6, false)] ∧
  ∀ s : State, ∃ t l h a, exec .rts s = .next t ∧
    s.stored (cat 1 (s.sp + 1)) = some l ∧ s.stored (cat 1 (s.sp + 2)) = some h ∧
    t.regs = { s.regs with sp := s.sp + 2, pc := cat h l + 1 } ∧ Stores s t [] ∧ RanWith s t a ∧
    shape a = [(.read, s.pc), (.read, cat 1 s.sp), (.read, cat 1 (s.sp + 1)), (.read, cat 1 (s.sp + 2)), (.read, cat h l)]

/-- BRK pushes PC past its padding byte and the status with B set, sets I and takes the IRQ vector or a hijacking NMI's. R312, R409; the entry sequence is R407. -/
def Obligations.BrkEntersThroughTheIrqVector : Prop :=
  HasForms .BRK [(0x00, .implied, 7, false)] ∧
  ∀ s : State, s.StorageOk →
    ∃ t, exec .brk s = .next t ∧
      Enters s t [(.read, s.pc)] (s.pc + 1) true (if (linesAfter s 3).nmiPending then 0xFFFA else 0xFFFE) ∧
      t.lines = ({ linesAfter s 3 with nmiPending := false } : Lines).signals ((s.ticks.drop 3).take 3).flatten ∧
      t.ticks = s.ticks.drop 6 ∧ t.cycles = s.cycles ∧ t.cyclesTotal = s.cyclesTotal

/-- RTI restores the six flags and PC from the stack, without adding one. R313. -/
def Obligations.RtiRestoresStatusAndPc : Prop :=
  HasForms .RTI [(0x40, .implied, 6, false)] ∧
  ∀ s : State, ∃ t v l h a, exec .rti s = .next t ∧
    s.stored (cat 1 (s.sp + 1)) = some v ∧ s.stored (cat 1 (s.sp + 2)) = some l ∧ s.stored (cat 1 (s.sp + 3)) = some h ∧
    t.regs = { s.regs with sp := s.sp + 3, pc := cat h l, p :=
      { n := v.getLsbD 7, v := v.getLsbD 6, d := v.getLsbD 3, i := v.getLsbD 2, z := v.getLsbD 1, c := v.getLsbD 0 } } ∧
    Stores s t [] ∧ RanWith s t a ∧
    shape a = [(.read, s.pc), (.read, cat 1 s.sp), (.read, cat 1 (s.sp + 1)), (.read, cat 1 (s.sp + 2)), (.read, cat 1 (s.sp + 3))] ∧
    (t.p.i = false → t.lines.irqLine = true → t.lines.nmiPending = false → t.lines.resetPending = false →
      t.halted = false → t.beginStep.boundary = .irq)

/-- SLO, RLA, SRE, RRA, DCP and ISC modify memory and then combine the result with A. R330 to R333, R336, R337. -/
def Obligations.CombinedModifyOperations : Prop :=
  HasForms .SLO
    [(0x03, .indexedIndirectX, 8, false), (0x07, .zeropage, 5, false), (0x0F, .absolute, 6, false),
     (0x13, .indirectIndexedY, 8, false), (0x17, .zeropageX, 6, false), (0x1B, .absoluteY, 7, false),
     (0x1F, .absoluteX, 7, false)] ∧
  ModifyRule .SLO aslValue (fun m r q => setA (q.a ||| r) (highOut m q)) ∧
  HasForms .RLA
    [(0x23, .indexedIndirectX, 8, false), (0x27, .zeropage, 5, false), (0x2F, .absolute, 6, false),
     (0x33, .indirectIndexedY, 8, false), (0x37, .zeropageX, 6, false), (0x3B, .absoluteY, 7, false),
     (0x3F, .absoluteX, 7, false)] ∧
  ModifyRule .RLA rolValue (fun m r q => setA (q.a &&& r) (highOut m q)) ∧
  HasForms .SRE
    [(0x43, .indexedIndirectX, 8, false), (0x47, .zeropage, 5, false), (0x4F, .absolute, 6, false),
     (0x53, .indirectIndexedY, 8, false), (0x57, .zeropageX, 6, false), (0x5B, .absoluteY, 7, false),
     (0x5F, .absoluteX, 7, false)] ∧
  ModifyRule .SRE lsrValue (fun m r q => setA (q.a ^^^ r) (lowOut m q)) ∧
  HasForms .RRA
    [(0x63, .indexedIndirectX, 8, false), (0x67, .zeropage, 5, false), (0x6F, .absolute, 6, false),
     (0x73, .indirectIndexedY, 8, false), (0x77, .zeropageX, 6, false), (0x7B, .absoluteY, 7, false),
     (0x7F, .absoluteX, 7, false)] ∧
  ModifyRule .RRA rorValue (fun m r q => addEffect r (lowOut m q)) ∧
  HasForms .DCP
    [(0xC3, .indexedIndirectX, 8, false), (0xC7, .zeropage, 5, false), (0xCF, .absolute, 6, false),
     (0xD3, .indirectIndexedY, 8, false), (0xD7, .zeropageX, 6, false), (0xDB, .absoluteY, 7, false),
     (0xDF, .absoluteX, 7, false)] ∧
  ModifyRule .DCP (fun _ m => m - 1) (fun _ r q => { q with p := compareFlags q.p q.a r }) ∧
  HasForms .ISC
    [(0xE3, .indexedIndirectX, 8, false), (0xE7, .zeropage, 5, false), (0xEF, .absolute, 6, false),
     (0xF3, .indirectIndexedY, 8, false), (0xF7, .zeropageX, 6, false), (0xFB, .absoluteY, 7, false),
     (0xFF, .absoluteX, 7, false)] ∧
  ModifyRule .ISC (fun _ m => m + 1) (fun _ r q => addEffect (255 - r) q)

/-- ANC, ALR, ARR and SBX compute their result and flags from A, X, the immediate and the carry. R360 to R362, R365. -/
def Obligations.ImmediateCombinedOperations : Prop :=
  ReadRule .ANC
    [(0x0B, .immediate, 2, false), (0x2B, .immediate, 2, false)]
    (fun m q => let t := setA (q.a &&& m) q; { t with p := { t.p with c := t.p.n } }) ∧
  ReadRule .ALR
    [(0x4B, .immediate, 2, false)]
    (fun m q => setA (lsrValue q.p.c (q.a &&& m)) (lowOut (q.a &&& m) q)) ∧
  ReadRule .ARR
    [(0x6B, .immediate, 2, false)]
    (fun m q => let v := rorValue q.p.c (q.a &&& m); let t := setA v q; { t with p := { t.p with c := v.getLsbD 6, v := v.getLsbD 6 != v.getLsbD 5 } }) ∧
  ReadRule .SBX
    [(0xCB, .immediate, 2, false)]
    (fun m q => let t := q.a &&& q.x; setX (BitVec.ofNat 8 (t.toNat + 256 - m.toNat)) { q with p := { q.p with c := decide (m.toNat ≤ t.toNat) } })

/-- ANE and LXA combine A with an open constant; the cases that do not depend on it are exact. R363, R364; nothing is assumed of the two constants (log entries 4 and 5). -/
def Obligations.UnstableImmediates : Prop :=
  ReadRule .ANE
    [(0x8B, .immediate, 2, false)]
    (fun m q => setA ((q.a ||| Config.aneMagic) &&& q.x &&& m) q) ∧
  ReadRule .LXA
    [(0xAB, .immediate, 2, false)]
    (fun m q => let t := (q.a ||| Config.lxaMagic) &&& m; setA t { q with x := t }) ∧
  ∀ (m : Byte) (s : State), ∃ t u, exec (.aneImm m) s = .next t ∧ exec (.lxaImm m) s = .next u ∧
    (m = 0 ∨ s.x = 0 → t.a = 0) ∧ (s.a = 0xFF → t.a = s.x &&& m) ∧
    (m = 0 → u.a = 0 ∧ u.x = 0) ∧ (s.a = 0xFF → u.a = m ∧ u.x = m)

/-- SHA, SHX, SHY and TAS store their value AND the high byte of the base plus one. R367 to R371; the crossed case is the spec's own choice D16 (log entry 13). -/
def Obligations.UnstableStores : Prop :=
  UnstableRule .SHA [(0x93, .indirectIndexedY, 6, false), (0x9F, .absoluteY, 5, false)] (fun q => q.a &&& q.x) (fun q => q) ∧
  UnstableRule .SHX [(0x9E, .absoluteY, 5, false)] (fun q => q.x) (fun q => q) ∧
  UnstableRule .SHY [(0x9C, .absoluteX, 5, false)] (fun q => q.y) (fun q => q) ∧
  UnstableRule .TAS [(0x9B, .absoluteY, 5, false)] (fun q => q.a &&& q.x) (fun q => { q with sp := q.a &&& q.x })

/-- The twelve jam opcodes halt the core with PC at the jam address plus one. R375. -/
def Obligations.JamHalts : Prop :=
  HasForms .JAM
    [(0x02, .implied, 2, false), (0x12, .implied, 2, false), (0x22, .implied, 2, false),
     (0x32, .implied, 2, false), (0x42, .implied, 2, false), (0x52, .implied, 2, false),
     (0x62, .implied, 2, false), (0x72, .implied, 2, false), (0x92, .implied, 2, false),
     (0xB2, .implied, 2, false), (0xD2, .implied, 2, false), (0xF2, .implied, 2, false)] ∧
  ImpliedRule .JAM .implied (fun q => { q with halted := true }) ∧
  (∀ s : State, s.halted = true → s.lines.resetPending = false → s.boundary = .halted) ∧
  (∀ s : State, s.lines.resetPending = true → s.boundary = .reset)

/-- Pbyte, SetP and PushImage place the six flags, U as 1 and B as the push chooses. R35 to R37. -/
def Obligations.StatusByteImages : Prop :=
  ∀ (p : Flags) (b : Byte) (brk : Bool),
    p.pbyte.toNat = 128 * p.n.toNat + 64 * p.v.toNat + 32 + 8 * p.d.toNat + 4 * p.i.toNat + 2 * p.z.toNat + p.c.toNat ∧
    (p.pushImage brk).toNat = p.pbyte.toNat + 16 * brk.toNat ∧
    p.pushImage true = p.pbyte ||| 0x30 ∧ p.pushImage false = p.pbyte ∧
    Flags.ofByte b =
      { n := b.getLsbD 7, v := b.getLsbD 6, d := b.getLsbD 3, i := b.getLsbD 2, z := b.getLsbD 1, c := b.getLsbD 0 } ∧
    Flags.ofByte (p.pushImage brk) = p

/-- set_nmi latches exactly the false-to-true change, and one NMI entry consumes the latch. R403. -/
def Obligations.NmiIsTakenOncePerEdge : Prop :=
  (∀ s : State, s.lines.nmiLine = false →
    s.setNmi true = { s with lines := { s.lines with nmiLine := true, nmiPending := true } }) ∧
  (∀ s : State, s.lines.nmiLine = true → s.setNmi true = s) ∧
  (∀ s : State, s.setNmi false = { s with lines := { s.lines with nmiLine := false } }) ∧
  (∀ s : State, s.lines.resetPending = false → s.halted = false → s.lines.nmiPending = true → s.ticks = [] →
    ∃ t, step s = .next t ∧ t.lines = { s.lines with nmiPending := false })

/-- A step takes RESET before the halted cycle before NMI before IRQ before an instruction. R406, R401. -/
def Obligations.BoundaryTakesEventsInOrder : Prop :=
  ∀ s : State,
    (s.lines.resetPending = true → step s = .next s.beginStep.resetSequence.finishStep) ∧
    (s.lines.resetPending = false → s.halted = true → step s = .next s.beginStep.haltedStep) ∧
    (s.lines.resetPending = false → s.halted = false → s.lines.nmiPending = true →
      step s = .next (s.beginStep.interruptSequence .nmi).finishStep) ∧
    (s.lines.resetPending = false → s.halted = false → s.lines.nmiPending = false → s.lines.irqLine = true →
      s.p.i = false → step s = .next (s.beginStep.interruptSequence .irq).finishStep) ∧
    (s.lines.resetPending = false → s.halted = false → s.lines.nmiPending = false →
      (s.lines.irqLine = false ∨ s.p.i = true) →
      step s = finishOutcome (exec s.beginStep.peekInstr s.beginStep.fetchInstr))

/-- An NMI or IRQ entry step saves PC and the status with B clear, sets I and loads PC from its vector. R407, R409; BRK's entry is stated with BRK. -/
def Obligations.NmiAndIrqEntry : Prop :=
  ∀ s : State, s.StorageOk → s.lines.resetPending = false → s.halted = false →
    (s.lines.nmiPending = true →
      ∃ t, step s = .next t ∧ Enters s.beginStep t [(.read, s.pc), (.read, s.pc)] s.pc false 0xFFFA ∧
        t.cycles = 7 ∧ t.cyclesTotal = s.cyclesTotal + 7 ∧ t.ticks = s.ticks.drop 7 ∧
        t.lines = ({ s.lines with nmiPending := false } : Lines).signals (s.ticks.take 7).flatten) ∧
    (s.lines.nmiPending = false → s.lines.irqLine = true → s.p.i = false →
      ∃ t, step s = .next t ∧
        Enters s.beginStep t [(.read, s.pc), (.read, s.pc)] s.pc false
          (if (linesAfter s 4).nmiPending then 0xFFFA else 0xFFFE) ∧
        t.cycles = 7 ∧ t.cyclesTotal = s.cyclesTotal + 7 ∧ t.ticks = s.ticks.drop 7 ∧
        t.lines = ({ linesAfter s 4 with nmiPending := false } : Lines).signals ((s.ticks.drop 4).take 3).flatten)

/-- A reset step sets S, I, PC and the pending bits, keeps every other register and all of storage, and makes seven reads. The sequence of R450 with the values of R47. That a call of the first five ticks is wiped by the clearing and one of the last two stays is the model's deduction from R450 and R421, log entry 15. -/
def Obligations.ResetStep : Prop :=
  ∀ s : State, s.lines.resetPending = true →
    ∃ t d l h, step s = .next t ∧ s.stored 0xFFFC = some l ∧ s.stored 0xFFFD = some h ∧
      t.regs = { s.regs with sp := 0xFD, p := { s.p with i := true }, halted := false, pc := cat h l } ∧
      Stores s t [] ∧ t.trace = d ++ [rd 0xFFFC l, rd 0xFFFD h] ∧
      shape d = [(.read, s.pc), (.read, s.pc), (.read, cat 1 s.sp), (.read, cat 1 (s.sp - 1)), (.read, cat 1 (s.sp - 2))] ∧
      t.lines = ({ linesAfter s 5 with nmiPending := false, resetPending := false } : Lines).signals
        ((s.ticks.drop 5).take 2).flatten ∧
      t.ticks = s.ticks.drop 7 ∧ t.busLatch = h ∧ t.cycles = 7 ∧ t.cyclesTotal = s.cyclesTotal + 7 ∧
      t.hookReads = s.hookReads.drop (s.windowReads d) ∧ t.hookCount = s.hookCount + s.windowReads d ∧
      t.prgRom = s.prgRom ∧ t.prgRam = s.prgRam

/-- Construction refuses exactly an invalid cartridge and else performs the power-on reset. R72, R451 and R46, with the contents of R63, R67 and R68. The sparse form of the byte arrays and the check of their offsets are the model's, log entry 12; so are the scripts hooks and ticks, log entries 6 and 7, and where the clearing falls among the ticks, log entry 15. -/
def Obligations.ConstructionChecksAndResets : Prop :=
  ∀ (c : Cartridge) (u : PowerUp) (hooks : List Byte) (ticks : List (List Signal)),
    (¬ ValidCartridge c → construct c u hooks ticks = .refused .invalidConfiguration) ∧
    (ValidCartridge c → ∃ t l h, construct c u hooks ticks = .next t ∧
      (t.prgRom = .k16 ∧ c.prgRomSize = some 16384 ∨ t.prgRom = .k32 ∧ c.prgRomSize = some 32768) ∧
      (t.prgRam = .absent ∧ c.prgRamSize = 0 ∨ t.prgRam = .k2 ∧ c.prgRamSize = 2048 ∨
        t.prgRam = .k4 ∧ c.prgRamSize = 4096 ∨ t.prgRam = .k8 ∧ c.prgRamSize = 8192) ∧
      (∀ k, k < 2048 → t.stored (BitVec.ofNat 16 k) = some (arrayByte u.ramInit k)) ∧
      (∀ k, k < c.prgRamSize → t.stored (BitVec.ofNat 16 (0x6000 + k)) = some (arrayByte c.prgRamInit k)) ∧
      (∀ k rom, c.prgRomSize = some rom → k < rom →
        t.stored (BitVec.ofNat 16 (0x8000 + k)) = some (arrayByte c.prgRom k)) ∧
      t.stored 0xFFFC = some l ∧ t.stored 0xFFFD = some h ∧
      t.regs = ⟨u.a, u.x, u.y, 0xFD, cat h l, ⟨u.c, u.z, true, u.d, u.v, u.n⟩, false⟩ ∧
      t.cycles = 7 ∧ t.cyclesTotal = 7 ∧
      shape t.trace = [(.read, 0x0000), (.read, 0x0000), (.read, 0x0100), (.read, 0x01FF), (.read, 0x01FE),
        (.read, 0xFFFC), (.read, 0xFFFD)] ∧
      t.busLatch = h ∧ t.hookReads = hooks ∧ t.hookCount = 0 ∧ t.ticks = ticks.drop 7 ∧
      t.lines = ({ quietLines.signals (ticks.take 5).flatten with nmiPending := false, resetPending := false } : Lines).signals
        ((ticks.drop 5).take 2).flatten ∧
      t.Inv)

/-- State.reset is what construction gives for the blank cartridge and zero parameters. R451 for the parameters the model chose (log entries 1, 2, 3, 6, 7). -/
def Obligations.ResetStateIsTheBlankPowerOn : Prop :=
  construct ⟨some 32768, [], 0, [], true, true⟩ ⟨0, 0, 0, false, false, false, false, false, []⟩ [] [] =
    .next State.reset

/-- A halted step makes no access, changes only the counts and returns 1; only a reset leaves the halted state. R414. -/
def Obligations.HaltedStepIsOneIdleCycle : Prop :=
  (∀ s : State, s.halted = true → s.lines.resetPending = false →
    step s = .next { s with trace := [], cycles := 1, cyclesTotal := s.cyclesTotal + 1 }) ∧
  (∀ s t : State, step s = .next t → s.halted = true → t.halted = false → s.lines.resetPending = true) ∧
  (∀ s : State, s.halted = true → s.lines.nmiLine = false → (s.setNmi true).lines.nmiPending = true)

/-- Every step keeps the storage well formed and the record of the step coherent. An invariant over every state that has it, not only over a run from reset. The canonical list of cells is the model's form of the storage (log entry 1). -/
def Obligations.StepKeepsTheInvariant : Prop :=
  ∀ s t : State, s.Inv → step s = .next t → t.Inv

/-- The state after reset has the invariant. The base of the invariant. -/
def Obligations.ResetStateHasTheInvariant : Prop :=
  State.reset.Inv

/-- Every state that construction, steps and the driver's calls lead to has the invariant. The invariant over all environments of R45. -/
def Obligations.ReachableStatesHaveTheInvariant : Prop :=
  ∀ s : State, Reachable s → s.Inv

/-- No step changes a byte of PRG-ROM. "writes to read-only regions (ROM) are silently discarded" (R68), over all steps. -/
def Obligations.RomNeverChanges : Prop :=
  ∀ (s t : State) (addr : Word), 0x8000 ≤ addr.toNat → step s = .next t → t.stored addr = s.stored addr

/-- A step returns its number of accesses, 1 to 8, and adds it to the total; only undocumented indirect read-modify-writes reach 8. R464, R465. -/
def Obligations.StepsTakeOneToEightCycles : Prop :=
  ∀ s t : State, step s = .next t →
    1 ≤ t.cycles ∧ t.cycles ≤ 8 ∧ t.cyclesTotal = s.cyclesTotal + t.cycles ∧
    (s.boundary ≠ .halted → t.trace.length = t.cycles) ∧
    (s.boundary = .halted → t.trace = [] ∧ t.cycles = 1) ∧
    (s.boundary = .nmi ∨ s.boundary = .irq → t.cycles = 7) ∧
    (s.boundary = .instruction →
      (t.cycles = 8 ↔ s.beginStep.peekInstr.row.accessClass = .readModifyWrite ∧
        (s.beginStep.peekInstr.format = .indexedIndirectX ∨ s.beginStep.peekInstr.format = .indirectIndexedY)) ∧
      (s.beginStep.peekInstr.row.documented = true → t.cycles ≤ 7))

/-- The accesses an instruction step makes are its table cycles plus the page and branch penalties. R401: the number of bus accesses equals the table's base_cycles plus the penalties of R142; the machine has no cycle table, so this ties the two. -/
def Obligations.InstructionStepsTakeTheTablesCycles : Prop :=
  ∀ s t : State, s.boundary = .instruction → step s = .next t →
    t.cycles = s.beginStep.peekInstr.row.baseCycles + penalty s.beginStep.peekInstr s.beginStep.fetchInstr

/-- C, I, D and V change only by the instructions their rules name as writers. The lists "Written by" of R27, R29, R30 and R33. -/
def Obligations.OnlyTheNamedInstructionsWriteAFlag : Prop :=
  ∀ (i : Instr) (s t : State), exec i s = .next t →
    (i.mnemonic ∉ [.ADC, .SBC, .CMP, .CPX, .CPY, .ASL, .LSR, .ROL, .ROR, .CLC, .SEC, .PLP, .RTI, .SLO, .RLA, .SRE, .RRA,
      .DCP, .ISC, .ANC, .ALR, .ARR, .SBX, .USBC] → t.p.c = s.p.c) ∧
    (i.mnemonic ∉ [.CLI, .SEI, .PLP, .RTI, .BRK] → t.p.i = s.p.i) ∧
    (i.mnemonic ∉ [.CLD, .SED, .PLP, .RTI] → t.p.d = s.p.d) ∧
    (i.mnemonic ∉ [.ADC, .SBC, .BIT, .CLV, .PLP, .RTI, .RRA, .ISC, .ARR, .USBC] → t.p.v = s.p.v)

/-- A, X, Y, S and halted change only by the instructions their rules name as writers. The lists "Written by" of R21 to R24; "entered by a jam opcode" of R38. -/
def Obligations.OnlyTheNamedInstructionsWriteARegister : Prop :=
  ∀ (i : Instr) (s t : State), exec i s = .next t →
    (i.mnemonic ∉ [.LDA, .PLA, .TXA, .TYA, .ADC, .SBC, .AND, .ORA, .EOR, .ASL, .LSR, .ROL, .ROR, .SLO, .RLA, .SRE, .RRA,
      .LAX, .ANC, .ALR, .ARR, .ANE, .LXA, .LAS, .USBC, .ISC] → t.a = s.a) ∧
    (i.mnemonic ∈ [.ASL, .LSR, .ROL, .ROR] → i.format ≠ .accumulator → t.a = s.a) ∧
    (i.mnemonic ∉ [.LDX, .TAX, .TSX, .INX, .DEX, .LAX, .LXA, .SBX, .LAS] → t.x = s.x) ∧
    (i.mnemonic ∉ [.LDY, .TAY, .INY, .DEY] → t.y = s.y) ∧
    (i.mnemonic ∉ [.TXS, .TAS, .LAS, .PHA, .PHP, .PLA, .PLP, .JSR, .RTS, .BRK, .RTI] → t.sp = s.sp) ∧
    t.halted = (s.halted || decide (i.mnemonic = .JAM))

/-- What the environment signals during an instruction other than BRK changes nothing of what the instruction does. "No call aborts or alters the instruction in progress" (R421); BRK's vector is the exception of R409. -/
def Obligations.SignalsNeverAlterAnInstruction : Prop :=
  ∀ (i : Instr) (s t : State) (lines : Lines) (ticks : List (List Signal)), i.mnemonic ≠ .BRK → exec i s = .next t →
    ∃ lines' ticks', exec i { s with lines := lines, ticks := ticks } = .next { t with lines := lines', ticks := ticks' }

/-- No step faults and no step is refused. "A model needs no fault outcome for any instruction" (R400). -/
def Obligations.EveryStepAnswersANextState : Prop :=
  ∀ s : State, ∃ t, step s = .next t

/-- set_irq and assert_reset set one input each, a hook's or tick's call does what the driver's does, and the core never moves irq_line. R404, R405 and "Each call updates the state at once" (R421). -/
def Obligations.InterruptCallsSetOneInput : Prop :=
  (∀ (s : State) (level : Bool), s.setIrq level = { s with lines := { s.lines with irqLine := level } }) ∧
  (∀ s : State, s.assertReset = { s with lines := { s.lines with resetPending := true } }) ∧
  (∀ s : State, s.assertReset.assertReset = s.assertReset) ∧
  (∀ (s : State) (call : Signal), { s with lines := s.lines.signal call } = match call with
    | .setNmi level => s.setNmi level
    | .setIrq level => s.setIrq level
    | .assertReset => s.assertReset) ∧
  (∀ l : Lines, l.signals [] = l) ∧
  (∀ (l : Lines) (call : Signal) (calls : List Signal), l.signals (call :: calls) = (l.signal call).signals calls) ∧
  (∀ s : State, s.lines.resetPending = false → s.halted = false → s.lines.nmiPending = false → s.p.i = false →
    ∃ t, step (s.setIrq true) = .next t ∧ t.p.i = true ∧ t.sp = s.sp - 3 ∧ t.cycles = 7) ∧
  (∀ s : State, ∃ t, step s.assertReset = .next t ∧ t.sp = 0xFD ∧ t.p.i = true ∧ t.halted = false ∧ t.cycles = 7 ∧
    (s.ticks = [] → t.lines = { s.lines with nmiPending := false, resetPending := false })) ∧
  (∀ s t : State, step s = .next t → t.lines.irqLine = (linesAfter s t.trace.length).irqLine)

/-- An access to a register window calls its hook once, with the register index and the byte; no other access calls one. R64, R65, R71 and the order of R81; that the calls are read off the access list is the model's form, log entry 6. -/
def Obligations.WindowAccessesCallTheirHook : Prop :=
  (∀ (s : State) (addr : Word) (v : Byte),
    (0x2000 ≤ addr.toNat → addr.toNat ≤ 0x3FFF →
      (s.read addr).hookCalls = s.hookCalls ++ [⟨.ppu, addr.toNat % 8, .read, s.peek addr⟩] ∧
      (s.write addr v).hookCalls = s.hookCalls ++ [⟨.ppu, addr.toNat % 8, .write, v⟩]) ∧
    (0x4000 ≤ addr.toNat → addr.toNat ≤ 0x4017 →
      (s.read addr).hookCalls = s.hookCalls ++ [⟨.apuIo, addr.toNat - 0x4000, .read, s.peek addr⟩] ∧
      (s.write addr v).hookCalls = s.hookCalls ++ [⟨.apuIo, addr.toNat - 0x4000, .write, v⟩]) ∧
    (addr.toNat < 0x2000 ∨ 0x4018 ≤ addr.toNat →
      (s.read addr).hookCalls = s.hookCalls ∧ (s.write addr v).hookCalls = s.hookCalls)) ∧
  ∀ s : State, s.hookCalls = s.trace.filterMap fun e =>
    if 0x2000 ≤ e.addr.toNat ∧ e.addr.toNat ≤ 0x3FFF then some ⟨.ppu, e.addr.toNat % 8, e.kind, e.data⟩
    else if 0x4000 ≤ e.addr.toNat ∧ e.addr.toNat ≤ 0x4017 then some ⟨.apuIo, e.addr.toNat - 0x4000, e.kind, e.data⟩
    else none

/-- query reports A, X, Y, S, PC, the status byte, halted and cycles_total; after a jam it reports halted. R45, R418; "`query()` reports `halted`" (R414). -/
def Obligations.QueryReportsTheRegisters : Prop :=
  (∀ s : State, s.query.a = s.a ∧ s.query.x = s.x ∧ s.query.y = s.y ∧ s.query.s = s.sp ∧ s.query.pc = s.pc ∧
    s.query.pbyte.toNat = 128 * s.p.n.toNat + 64 * s.p.v.toNat + 32 + 8 * s.p.d.toNat + 4 * s.p.i.toNat
      + 2 * s.p.z.toNat + s.p.c.toNat ∧
    s.query.halted = s.halted ∧ s.query.cyclesTotal = s.cyclesTotal) ∧
  (∀ s t : State, s.regs = t.regs → s.cyclesTotal = t.cyclesTotal → s.query = t.query) ∧
  (∀ (i : Instr) (s : State), i.mnemonic = .JAM → ∃ t, exec i s = .next t ∧ t.query.halted = true)
end

