-- ==== Sys2Proof/Laws/Memory.lean ====
section
/-! SUPPORT. The laws of the cell list and of the region table. -/

namespace Sys2Proof.Machine

@[simp] theorem Memory.read_nil (k : Nat) : Memory.read [] k = 0x00 := rfl

@[simp] theorem Memory.wf_nil : Memory.wf [] = true := rfl

theorem Memory.wfFrom_mono {m : Memory} {low low' : Nat} (h : low ≤ low')
    (hm : Memory.wfFrom low' m = true) : Memory.wfFrom low m = true := by
  cases m with
  | nil => rfl
  | cons c m =>
    simp only [Memory.wfFrom, Bool.and_eq_true, decide_eq_true_eq] at hm ⊢
    exact ⟨by omega, hm.2⟩

/-- Below the lowest address a canonical list may hold, every cell is unlisted. -/
theorem Memory.read_below {m : Memory} {low k : Nat} (hm : Memory.wfFrom low m = true) (hk : k < low) :
    Memory.read m k = Memory.unlisted k := by
  induction m generalizing low with
  | nil => rfl
  | cons c m ih =>
    simp only [Memory.wfFrom, Bool.and_eq_true, decide_eq_true_eq] at hm
    rw [Memory.read, if_neg (by omega)]
    exact ih hm.2.2 (by omega)

theorem Memory.wfFrom_write {m : Memory} {low k : Nat} (v : Byte) (hm : Memory.wfFrom low m = true)
    (hk : low ≤ k) : Memory.wfFrom low (Memory.write m k v) = true := by
  induction m generalizing low with
  | nil =>
    unfold Memory.write
    split <;> simp_all [Memory.wfFrom]
  | cons c m ih =>
    obtain ⟨j, w⟩ := c
    have h0 := hm
    simp only [Memory.wfFrom, Bool.and_eq_true, decide_eq_true_eq] at hm
    obtain ⟨hj, hw, hr⟩ := hm
    unfold Memory.write
    split
    · split
      · exact h0
      · simp only [Memory.wfFrom, Bool.and_eq_true, decide_eq_true_eq]
        exact ⟨hk, ‹_›, by omega, hw, hr⟩
    · split
      · subst_vars
        split
        · exact Memory.wfFrom_mono (by omega) hr
        · simp only [Memory.wfFrom, Bool.and_eq_true, decide_eq_true_eq]
          exact ⟨hj, ‹_›, hr⟩
      · simp only [Memory.wfFrom, Bool.and_eq_true, decide_eq_true_eq]
        exact ⟨hj, hw, ih hr (by omega)⟩

/-- Every store keeps the canonical form. -/
theorem Memory.wf_write {m : Memory} (hm : Memory.wf m = true) (k : Nat) (v : Byte) :
    Memory.wf (Memory.write m k v) = true :=
  Memory.wfFrom_write v hm (Nat.zero_le k)

/-- A read after a store to the same cell gives the byte stored. -/
theorem Memory.read_write_same {m : Memory} (hm : Memory.wf m = true) (k : Nat) (v : Byte) :
    Memory.read (Memory.write m k v) k = v := by
  unfold Memory.wf at hm
  revert hm
  generalize 0 = low
  intro hm
  induction m generalizing low with
  | nil =>
    unfold Memory.write
    split
    · simp_all [Memory.read]
    · simp [Memory.read]
  | cons c m ih =>
    obtain ⟨j, w⟩ := c
    simp only [Memory.wfFrom, Bool.and_eq_true, decide_eq_true_eq] at hm
    obtain ⟨hj, hw, hr⟩ := hm
    unfold Memory.write
    split
    · split
      · rename_i hlt hv
        rw [Memory.read, if_neg (by omega), Memory.read_below hr (by omega), hv]
      · simp [Memory.read]
    · split
      · subst_vars
        split
        · rename_i hv
          rw [Memory.read_below hr (by omega), hv]
        · simp [Memory.read]
      · rw [Memory.read, if_neg (by omega)]
        exact ih _ hr

/-- A store leaves every other cell alone. -/
theorem Memory.read_write_other (m : Memory) {k j : Nat} (v : Byte) (h : j ≠ k) :
    Memory.read (Memory.write m k v) j = Memory.read m j := by
  induction m with
  | nil =>
    unfold Memory.write
    split
    · rfl
    · simp [Memory.read, Ne.symm h]
  | cons c m ih =>
    obtain ⟨i, w⟩ := c
    unfold Memory.write
    split
    · split
      · rfl
      · simp [Memory.read, Ne.symm h]
    · split
      · subst_vars
        split
        · simp [Memory.read, Ne.symm h]
        · simp [Memory.read, Ne.symm h]
      · simp only [Memory.read, ih]

/-- A store lists no cell but the one stored to. -/
theorem Memory.all_write {m : Memory} {q : Host.Cell → Bool} (hm : m.all q = true) (k : Nat) (v : Byte)
    (hk : q (k, v) = true) : (Memory.write m k v).all q = true := by
  induction m with
  | nil =>
    unfold Memory.write
    split <;> simp [hk]
  | cons c m ih =>
    obtain ⟨j, w⟩ := c
    simp only [List.all_cons, Bool.and_eq_true] at hm
    unfold Memory.write
    split
    · split <;> simp [hk, hm]
    · split
      · split <;> simp [hk, hm]
      · simp [hm.1, ih hm.2]

/-- Loading a byte array keeps the canonical form. -/
theorem Memory.wf_load {m : Memory} (hm : Memory.wf m = true) (base : Nat) (bytes : List (Nat × Byte)) :
    Memory.wf (Memory.load m base bytes) = true := by
  unfold Memory.load
  induction bytes generalizing m with
  | nil => exact hm
  | cons b bytes ih => exact ih (Memory.wf_write hm _ _)

/-- Loading a byte array lists only its own cells. -/
theorem Memory.all_load {m : Memory} {q : Host.Cell → Bool} (hm : m.all q = true) (base : Nat)
    (bytes : List (Nat × Byte)) (hb : ∀ b ∈ bytes, q (base + b.1, b.2) = true) :
    (Memory.load m base bytes).all q = true := by
  unfold Memory.load
  induction bytes generalizing m with
  | nil => exact hm
  | cons b bytes ih =>
    exact ih (Memory.all_write hm _ _ (hb b (by simp))) fun c hc => hb c (by simp [hc])

/-! ## Regions -/

theorem ramBytes_pos {ram : PrgRamSize} (h : ram ≠ .absent) : 0 < ramBytes ram := by
  cases ram <;> simp_all [ramBytes]

theorem romBytes_pos (rom : PrgRomSize) : 0 < romBytes rom := by
  cases rom <;> decide

/-- Every cell the region table names exists. -/
theorem cell_exists {rom : PrgRomSize} {ram : PrgRamSize} {addr : Word} {k : Nat}
    (h : (regionOf rom ram addr).cell = some k) : cellExists rom ram k = true := by
  have hr := romBytes_pos rom
  unfold regionOf at h
  simp only at h
  split at h
  · simp only [Region.cell, Option.some.injEq] at h
    have : addr.toNat % 0x0800 < 0x0800 := Nat.mod_lt _ (by decide)
    simp only [cellExists, Bool.or_eq_true, Bool.and_eq_true, decide_eq_true_eq]
    omega
  · split at h
    · simp [Region.cell] at h
    · split at h
      · simp [Region.cell] at h
      · split at h
        · simp [Region.cell] at h
        · split at h
          · split at h
            · simp [Region.cell] at h
            · rename_i hram
              simp only [Region.cell, Option.some.injEq] at h
              have := Nat.mod_lt (addr.toNat - 0x6000) (ramBytes_pos hram)
              simp only [cellExists, Bool.or_eq_true, Bool.and_eq_true, decide_eq_true_eq]
              omega
          · simp only [Region.cell, Option.some.injEq] at h
            have := Nat.mod_lt (addr.toNat - 0x8000) hr
            simp only [cellExists, Bool.or_eq_true, Bool.and_eq_true, decide_eq_true_eq]
            omega

/-- A cell a write stores to is the cell a read looks at. -/
theorem Region.cell_of_writable {r : Region} {k : Nat} (h : r.writableCell = some k) : r.cell = some k := by
  cases r <;> simp_all [Region.writableCell, Region.cell]

/-- A cell a write stores to is no cell of PRG-ROM. -/
theorem writable_below_rom {rom : PrgRomSize} {ram : PrgRamSize} {addr : Word} {k : Nat}
    (h : (regionOf rom ram addr).writableCell = some k) : k < 0x8000 := by
  have hc := cell_exists (Region.cell_of_writable h)
  have hb : ramBytes ram ≤ 8192 := by cases ram <;> decide
  unfold regionOf at h
  simp only at h
  split at h
  · simp only [Region.writableCell, Option.some.injEq] at h
    have : addr.toNat % 0x0800 < 0x0800 := Nat.mod_lt _ (by decide)
    omega
  · split at h
    · simp [Region.writableCell] at h
    · split at h
      · simp [Region.writableCell] at h
      · split at h
        · simp [Region.writableCell] at h
        · split at h
          · split at h
            · simp [Region.writableCell] at h
            · rename_i hram
              simp only [Region.writableCell, Option.some.injEq] at h
              have := Nat.mod_lt (addr.toNat - 0x6000) (ramBytes_pos hram)
              omega
          · simp [Region.writableCell] at h

/-- A region with a hook has no storage. -/
theorem Region.cell_of_hook {r : Region} (h : r.hook.isSome = true) : r.cell = none := by
  cases r <;> simp_all [Region.hook, Region.cell]

/-- The stack page is internal RAM (R78). -/
theorem regionOf_stackPage (rom : PrgRomSize) (ram : PrgRamSize) (s : Byte) :
    regionOf rom ram (stackPage s) = .ram (0x100 + s.toNat) := by
  have h : (stackPage s).toNat = 0x100 + s.toNat := by
    unfold stackPage cat
    rw [BitVec.toNat_append, Nat.shiftLeft_eq, ← Nat.shiftLeft_eq, ← Nat.shiftLeft_add_eq_or_of_lt s.isLt]
    rfl
  unfold regionOf
  have := s.isLt
  simp only [h]
  rw [if_pos (by omega), Nat.mod_eq_of_lt (by omega)]

end Sys2Proof.Machine
end

