-- ==== Sys2Proof/Laws/State.lean ====
section
/-! SUPPORT. One lemma per field per update of the state: what each shared operation leaves as it was and
what it sets. All true by `rfl`, so that no later proof unfolds a record update. -/

namespace Sys2Proof.Machine

/-! ### `setPc` -/

@[simp] theorem State.setPc_a (s : State) (w : Word) : (s.setPc w).a = s.a := rfl
@[simp] theorem State.setPc_x (s : State) (w : Word) : (s.setPc w).x = s.x := rfl
@[simp] theorem State.setPc_y (s : State) (w : Word) : (s.setPc w).y = s.y := rfl
@[simp] theorem State.setPc_sp (s : State) (w : Word) : (s.setPc w).sp = s.sp := rfl
@[simp] theorem State.setPc_p (s : State) (w : Word) : (s.setPc w).p = s.p := rfl
@[simp] theorem State.setPc_halted (s : State) (w : Word) : (s.setPc w).halted = s.halted := rfl
@[simp] theorem State.setPc_lines (s : State) (w : Word) : (s.setPc w).lines = s.lines := rfl
@[simp] theorem State.setPc_cyclesTotal (s : State) (w : Word) : (s.setPc w).cyclesTotal = s.cyclesTotal := rfl
@[simp] theorem State.setPc_cycles (s : State) (w : Word) : (s.setPc w).cycles = s.cycles := rfl
@[simp] theorem State.setPc_trace (s : State) (w : Word) : (s.setPc w).trace = s.trace := rfl
@[simp] theorem State.setPc_busLatch (s : State) (w : Word) : (s.setPc w).busLatch = s.busLatch := rfl
@[simp] theorem State.setPc_mem (s : State) (w : Word) : (s.setPc w).mem = s.mem := rfl
@[simp] theorem State.setPc_prgRom (s : State) (w : Word) : (s.setPc w).prgRom = s.prgRom := rfl
@[simp] theorem State.setPc_prgRam (s : State) (w : Word) : (s.setPc w).prgRam = s.prgRam := rfl
@[simp] theorem State.setPc_hookReads (s : State) (w : Word) : (s.setPc w).hookReads = s.hookReads := rfl
@[simp] theorem State.setPc_hookCount (s : State) (w : Word) : (s.setPc w).hookCount = s.hookCount := rfl
@[simp] theorem State.setPc_ticks (s : State) (w : Word) : (s.setPc w).ticks = s.ticks := rfl
@[simp] theorem State.setPc_pc (s : State) (w : Word) : (s.setPc w).pc = w := rfl

/-! ### `setSp` -/

@[simp] theorem State.setSp_a (s : State) (v : Byte) : (s.setSp v).a = s.a := rfl
@[simp] theorem State.setSp_x (s : State) (v : Byte) : (s.setSp v).x = s.x := rfl
@[simp] theorem State.setSp_y (s : State) (v : Byte) : (s.setSp v).y = s.y := rfl
@[simp] theorem State.setSp_pc (s : State) (v : Byte) : (s.setSp v).pc = s.pc := rfl
@[simp] theorem State.setSp_p (s : State) (v : Byte) : (s.setSp v).p = s.p := rfl
@[simp] theorem State.setSp_halted (s : State) (v : Byte) : (s.setSp v).halted = s.halted := rfl
@[simp] theorem State.setSp_lines (s : State) (v : Byte) : (s.setSp v).lines = s.lines := rfl
@[simp] theorem State.setSp_cyclesTotal (s : State) (v : Byte) : (s.setSp v).cyclesTotal = s.cyclesTotal := rfl
@[simp] theorem State.setSp_cycles (s : State) (v : Byte) : (s.setSp v).cycles = s.cycles := rfl
@[simp] theorem State.setSp_trace (s : State) (v : Byte) : (s.setSp v).trace = s.trace := rfl
@[simp] theorem State.setSp_busLatch (s : State) (v : Byte) : (s.setSp v).busLatch = s.busLatch := rfl
@[simp] theorem State.setSp_mem (s : State) (v : Byte) : (s.setSp v).mem = s.mem := rfl
@[simp] theorem State.setSp_prgRom (s : State) (v : Byte) : (s.setSp v).prgRom = s.prgRom := rfl
@[simp] theorem State.setSp_prgRam (s : State) (v : Byte) : (s.setSp v).prgRam = s.prgRam := rfl
@[simp] theorem State.setSp_hookReads (s : State) (v : Byte) : (s.setSp v).hookReads = s.hookReads := rfl
@[simp] theorem State.setSp_hookCount (s : State) (v : Byte) : (s.setSp v).hookCount = s.hookCount := rfl
@[simp] theorem State.setSp_ticks (s : State) (v : Byte) : (s.setSp v).ticks = s.ticks := rfl
@[simp] theorem State.setSp_sp (s : State) (v : Byte) : (s.setSp v).sp = v := rfl

/-! ### `setP` -/

@[simp] theorem State.setP_a (s : State) (p : Flags) : (s.setP p).a = s.a := rfl
@[simp] theorem State.setP_x (s : State) (p : Flags) : (s.setP p).x = s.x := rfl
@[simp] theorem State.setP_y (s : State) (p : Flags) : (s.setP p).y = s.y := rfl
@[simp] theorem State.setP_sp (s : State) (p : Flags) : (s.setP p).sp = s.sp := rfl
@[simp] theorem State.setP_pc (s : State) (p : Flags) : (s.setP p).pc = s.pc := rfl
@[simp] theorem State.setP_halted (s : State) (p : Flags) : (s.setP p).halted = s.halted := rfl
@[simp] theorem State.setP_lines (s : State) (p : Flags) : (s.setP p).lines = s.lines := rfl
@[simp] theorem State.setP_cyclesTotal (s : State) (p : Flags) : (s.setP p).cyclesTotal = s.cyclesTotal := rfl
@[simp] theorem State.setP_cycles (s : State) (p : Flags) : (s.setP p).cycles = s.cycles := rfl
@[simp] theorem State.setP_trace (s : State) (p : Flags) : (s.setP p).trace = s.trace := rfl
@[simp] theorem State.setP_busLatch (s : State) (p : Flags) : (s.setP p).busLatch = s.busLatch := rfl
@[simp] theorem State.setP_mem (s : State) (p : Flags) : (s.setP p).mem = s.mem := rfl
@[simp] theorem State.setP_prgRom (s : State) (p : Flags) : (s.setP p).prgRom = s.prgRom := rfl
@[simp] theorem State.setP_prgRam (s : State) (p : Flags) : (s.setP p).prgRam = s.prgRam := rfl
@[simp] theorem State.setP_hookReads (s : State) (p : Flags) : (s.setP p).hookReads = s.hookReads := rfl
@[simp] theorem State.setP_hookCount (s : State) (p : Flags) : (s.setP p).hookCount = s.hookCount := rfl
@[simp] theorem State.setP_ticks (s : State) (p : Flags) : (s.setP p).ticks = s.ticks := rfl
@[simp] theorem State.setP_p (s : State) (p : Flags) : (s.setP p).p = p := rfl

/-! ### `read` -/

@[simp] theorem State.read_a (s : State) (addr : Word) : (s.read addr).a = s.a := rfl
@[simp] theorem State.read_x (s : State) (addr : Word) : (s.read addr).x = s.x := rfl
@[simp] theorem State.read_y (s : State) (addr : Word) : (s.read addr).y = s.y := rfl
@[simp] theorem State.read_sp (s : State) (addr : Word) : (s.read addr).sp = s.sp := rfl
@[simp] theorem State.read_pc (s : State) (addr : Word) : (s.read addr).pc = s.pc := rfl
@[simp] theorem State.read_p (s : State) (addr : Word) : (s.read addr).p = s.p := rfl
@[simp] theorem State.read_halted (s : State) (addr : Word) : (s.read addr).halted = s.halted := rfl
@[simp] theorem State.read_cyclesTotal (s : State) (addr : Word) : (s.read addr).cyclesTotal = s.cyclesTotal := rfl
@[simp] theorem State.read_cycles (s : State) (addr : Word) : (s.read addr).cycles = s.cycles := rfl
@[simp] theorem State.read_mem (s : State) (addr : Word) : (s.read addr).mem = s.mem := rfl
@[simp] theorem State.read_prgRom (s : State) (addr : Word) : (s.read addr).prgRom = s.prgRom := rfl
@[simp] theorem State.read_prgRam (s : State) (addr : Word) : (s.read addr).prgRam = s.prgRam := rfl
@[simp] theorem State.read_busLatch (s : State) (addr : Word) : (s.read addr).busLatch = s.peek addr := rfl
@[simp] theorem State.read_trace (s : State) (addr : Word) : (s.read addr).trace = s.trace ++ [⟨.read, addr, s.peek addr⟩] := rfl
@[simp] theorem State.read_lines (s : State) (addr : Word) : (s.read addr).lines = s.lines.signals (s.ticks.headD []) := rfl
@[simp] theorem State.read_ticks (s : State) (addr : Word) : (s.read addr).ticks = s.ticks.tail := rfl

/-! ### `write` -/

@[simp] theorem State.write_a (s : State) (addr : Word) (v : Byte) : (s.write addr v).a = s.a := rfl
@[simp] theorem State.write_x (s : State) (addr : Word) (v : Byte) : (s.write addr v).x = s.x := rfl
@[simp] theorem State.write_y (s : State) (addr : Word) (v : Byte) : (s.write addr v).y = s.y := rfl
@[simp] theorem State.write_sp (s : State) (addr : Word) (v : Byte) : (s.write addr v).sp = s.sp := rfl
@[simp] theorem State.write_pc (s : State) (addr : Word) (v : Byte) : (s.write addr v).pc = s.pc := rfl
@[simp] theorem State.write_p (s : State) (addr : Word) (v : Byte) : (s.write addr v).p = s.p := rfl
@[simp] theorem State.write_halted (s : State) (addr : Word) (v : Byte) : (s.write addr v).halted = s.halted := rfl
@[simp] theorem State.write_cyclesTotal (s : State) (addr : Word) (v : Byte) : (s.write addr v).cyclesTotal = s.cyclesTotal := rfl
@[simp] theorem State.write_cycles (s : State) (addr : Word) (v : Byte) : (s.write addr v).cycles = s.cycles := rfl
@[simp] theorem State.write_prgRom (s : State) (addr : Word) (v : Byte) : (s.write addr v).prgRom = s.prgRom := rfl
@[simp] theorem State.write_prgRam (s : State) (addr : Word) (v : Byte) : (s.write addr v).prgRam = s.prgRam := rfl
@[simp] theorem State.write_hookReads (s : State) (addr : Word) (v : Byte) : (s.write addr v).hookReads = s.hookReads := rfl
@[simp] theorem State.write_hookCount (s : State) (addr : Word) (v : Byte) : (s.write addr v).hookCount = s.hookCount := rfl
@[simp] theorem State.write_busLatch (s : State) (addr : Word) (v : Byte) : (s.write addr v).busLatch = v := rfl
@[simp] theorem State.write_trace (s : State) (addr : Word) (v : Byte) : (s.write addr v).trace = s.trace ++ [⟨.write, addr, v⟩] := rfl
@[simp] theorem State.write_lines (s : State) (addr : Word) (v : Byte) : (s.write addr v).lines = s.lines.signals (s.ticks.headD []) := rfl
@[simp] theorem State.write_ticks (s : State) (addr : Word) (v : Byte) : (s.write addr v).ticks = s.ticks.tail := rfl

/-! ### `fetch` -/

@[simp] theorem State.fetch_a (s : State) : (s.fetch).a = s.a := rfl
@[simp] theorem State.fetch_x (s : State) : (s.fetch).x = s.x := rfl
@[simp] theorem State.fetch_y (s : State) : (s.fetch).y = s.y := rfl
@[simp] theorem State.fetch_sp (s : State) : (s.fetch).sp = s.sp := rfl
@[simp] theorem State.fetch_p (s : State) : (s.fetch).p = s.p := rfl
@[simp] theorem State.fetch_halted (s : State) : (s.fetch).halted = s.halted := rfl
@[simp] theorem State.fetch_cyclesTotal (s : State) : (s.fetch).cyclesTotal = s.cyclesTotal := rfl
@[simp] theorem State.fetch_cycles (s : State) : (s.fetch).cycles = s.cycles := rfl
@[simp] theorem State.fetch_mem (s : State) : (s.fetch).mem = s.mem := rfl
@[simp] theorem State.fetch_prgRom (s : State) : (s.fetch).prgRom = s.prgRom := rfl
@[simp] theorem State.fetch_prgRam (s : State) : (s.fetch).prgRam = s.prgRam := rfl
@[simp] theorem State.fetch_pc (s : State) : (s.fetch).pc = s.pc + 1 := rfl
@[simp] theorem State.fetch_busLatch (s : State) : (s.fetch).busLatch = s.peek s.pc := rfl
@[simp] theorem State.fetch_trace (s : State) : (s.fetch).trace = s.trace ++ [⟨.read, s.pc, s.peek s.pc⟩] := rfl
@[simp] theorem State.fetch_lines (s : State) : (s.fetch).lines = s.lines.signals (s.ticks.headD []) := rfl
@[simp] theorem State.fetch_ticks (s : State) : (s.fetch).ticks = s.ticks.tail := rfl

/-! ### `push` -/

@[simp] theorem State.push_a (s : State) (v : Byte) : (s.push v).a = s.a := rfl
@[simp] theorem State.push_x (s : State) (v : Byte) : (s.push v).x = s.x := rfl
@[simp] theorem State.push_y (s : State) (v : Byte) : (s.push v).y = s.y := rfl
@[simp] theorem State.push_pc (s : State) (v : Byte) : (s.push v).pc = s.pc := rfl
@[simp] theorem State.push_p (s : State) (v : Byte) : (s.push v).p = s.p := rfl
@[simp] theorem State.push_halted (s : State) (v : Byte) : (s.push v).halted = s.halted := rfl
@[simp] theorem State.push_cyclesTotal (s : State) (v : Byte) : (s.push v).cyclesTotal = s.cyclesTotal := rfl
@[simp] theorem State.push_cycles (s : State) (v : Byte) : (s.push v).cycles = s.cycles := rfl
@[simp] theorem State.push_prgRom (s : State) (v : Byte) : (s.push v).prgRom = s.prgRom := rfl
@[simp] theorem State.push_prgRam (s : State) (v : Byte) : (s.push v).prgRam = s.prgRam := rfl
@[simp] theorem State.push_hookReads (s : State) (v : Byte) : (s.push v).hookReads = s.hookReads := rfl
@[simp] theorem State.push_hookCount (s : State) (v : Byte) : (s.push v).hookCount = s.hookCount := rfl
@[simp] theorem State.push_sp (s : State) (v : Byte) : (s.push v).sp = s.sp - 1 := rfl
@[simp] theorem State.push_busLatch (s : State) (v : Byte) : (s.push v).busLatch = v := rfl
@[simp] theorem State.push_trace (s : State) (v : Byte) : (s.push v).trace = s.trace ++ [⟨.write, stackPage s.sp, v⟩] := rfl
@[simp] theorem State.push_mem (s : State) (v : Byte) : (s.push v).mem = (s.write (stackPage s.sp) v).mem := rfl
@[simp] theorem State.push_lines (s : State) (v : Byte) : (s.push v).lines = s.lines.signals (s.ticks.headD []) := rfl
@[simp] theorem State.push_ticks (s : State) (v : Byte) : (s.push v).ticks = s.ticks.tail := rfl

/-! ### `pull` -/

@[simp] theorem State.pull_a (s : State) : (s.pull).a = s.a := rfl
@[simp] theorem State.pull_x (s : State) : (s.pull).x = s.x := rfl
@[simp] theorem State.pull_y (s : State) : (s.pull).y = s.y := rfl
@[simp] theorem State.pull_pc (s : State) : (s.pull).pc = s.pc := rfl
@[simp] theorem State.pull_p (s : State) : (s.pull).p = s.p := rfl
@[simp] theorem State.pull_halted (s : State) : (s.pull).halted = s.halted := rfl
@[simp] theorem State.pull_cyclesTotal (s : State) : (s.pull).cyclesTotal = s.cyclesTotal := rfl
@[simp] theorem State.pull_cycles (s : State) : (s.pull).cycles = s.cycles := rfl
@[simp] theorem State.pull_mem (s : State) : (s.pull).mem = s.mem := rfl
@[simp] theorem State.pull_prgRom (s : State) : (s.pull).prgRom = s.prgRom := rfl
@[simp] theorem State.pull_prgRam (s : State) : (s.pull).prgRam = s.prgRam := rfl
@[simp] theorem State.pull_sp (s : State) : (s.pull).sp = s.sp + 1 := rfl
@[simp] theorem State.pull_busLatch (s : State) : (s.pull).busLatch = s.peekPull := rfl
@[simp] theorem State.pull_trace (s : State) : (s.pull).trace = s.trace ++ [⟨.read, stackPage (s.sp + 1), s.peekPull⟩] := rfl
@[simp] theorem State.pull_lines (s : State) : (s.pull).lines = s.lines.signals (s.ticks.headD []) := rfl
@[simp] theorem State.pull_ticks (s : State) : (s.pull).ticks = s.ticks.tail := rfl

/-! ### `consumeNmi` -/

@[simp] theorem State.consumeNmi_a (s : State) : (s.consumeNmi).a = s.a := rfl
@[simp] theorem State.consumeNmi_x (s : State) : (s.consumeNmi).x = s.x := rfl
@[simp] theorem State.consumeNmi_y (s : State) : (s.consumeNmi).y = s.y := rfl
@[simp] theorem State.consumeNmi_sp (s : State) : (s.consumeNmi).sp = s.sp := rfl
@[simp] theorem State.consumeNmi_pc (s : State) : (s.consumeNmi).pc = s.pc := rfl
@[simp] theorem State.consumeNmi_p (s : State) : (s.consumeNmi).p = s.p := rfl
@[simp] theorem State.consumeNmi_halted (s : State) : (s.consumeNmi).halted = s.halted := rfl
@[simp] theorem State.consumeNmi_cyclesTotal (s : State) : (s.consumeNmi).cyclesTotal = s.cyclesTotal := rfl
@[simp] theorem State.consumeNmi_cycles (s : State) : (s.consumeNmi).cycles = s.cycles := rfl
@[simp] theorem State.consumeNmi_trace (s : State) : (s.consumeNmi).trace = s.trace := rfl
@[simp] theorem State.consumeNmi_busLatch (s : State) : (s.consumeNmi).busLatch = s.busLatch := rfl
@[simp] theorem State.consumeNmi_mem (s : State) : (s.consumeNmi).mem = s.mem := rfl
@[simp] theorem State.consumeNmi_prgRom (s : State) : (s.consumeNmi).prgRom = s.prgRom := rfl
@[simp] theorem State.consumeNmi_prgRam (s : State) : (s.consumeNmi).prgRam = s.prgRam := rfl
@[simp] theorem State.consumeNmi_hookReads (s : State) : (s.consumeNmi).hookReads = s.hookReads := rfl
@[simp] theorem State.consumeNmi_hookCount (s : State) : (s.consumeNmi).hookCount = s.hookCount := rfl
@[simp] theorem State.consumeNmi_ticks (s : State) : (s.consumeNmi).ticks = s.ticks := rfl
@[simp] theorem State.consumeNmi_lines (s : State) : (s.consumeNmi).lines = { s.lines with nmiPending := false } := rfl

/-! ### `maskIrq` -/

@[simp] theorem State.maskIrq_a (s : State) : (s.maskIrq).a = s.a := rfl
@[simp] theorem State.maskIrq_x (s : State) : (s.maskIrq).x = s.x := rfl
@[simp] theorem State.maskIrq_y (s : State) : (s.maskIrq).y = s.y := rfl
@[simp] theorem State.maskIrq_sp (s : State) : (s.maskIrq).sp = s.sp := rfl
@[simp] theorem State.maskIrq_pc (s : State) : (s.maskIrq).pc = s.pc := rfl
@[simp] theorem State.maskIrq_halted (s : State) : (s.maskIrq).halted = s.halted := rfl
@[simp] theorem State.maskIrq_lines (s : State) : (s.maskIrq).lines = s.lines := rfl
@[simp] theorem State.maskIrq_cyclesTotal (s : State) : (s.maskIrq).cyclesTotal = s.cyclesTotal := rfl
@[simp] theorem State.maskIrq_cycles (s : State) : (s.maskIrq).cycles = s.cycles := rfl
@[simp] theorem State.maskIrq_trace (s : State) : (s.maskIrq).trace = s.trace := rfl
@[simp] theorem State.maskIrq_busLatch (s : State) : (s.maskIrq).busLatch = s.busLatch := rfl
@[simp] theorem State.maskIrq_mem (s : State) : (s.maskIrq).mem = s.mem := rfl
@[simp] theorem State.maskIrq_prgRom (s : State) : (s.maskIrq).prgRom = s.prgRom := rfl
@[simp] theorem State.maskIrq_prgRam (s : State) : (s.maskIrq).prgRam = s.prgRam := rfl
@[simp] theorem State.maskIrq_hookReads (s : State) : (s.maskIrq).hookReads = s.hookReads := rfl
@[simp] theorem State.maskIrq_hookCount (s : State) : (s.maskIrq).hookCount = s.hookCount := rfl
@[simp] theorem State.maskIrq_ticks (s : State) : (s.maskIrq).ticks = s.ticks := rfl
@[simp] theorem State.maskIrq_p (s : State) : (s.maskIrq).p = { s.p with i := true } := rfl

/-! ### `resetRegisters` -/

@[simp] theorem State.resetRegisters_a (s : State) : (s.resetRegisters).a = s.a := rfl
@[simp] theorem State.resetRegisters_x (s : State) : (s.resetRegisters).x = s.x := rfl
@[simp] theorem State.resetRegisters_y (s : State) : (s.resetRegisters).y = s.y := rfl
@[simp] theorem State.resetRegisters_pc (s : State) : (s.resetRegisters).pc = s.pc := rfl
@[simp] theorem State.resetRegisters_cyclesTotal (s : State) : (s.resetRegisters).cyclesTotal = s.cyclesTotal := rfl
@[simp] theorem State.resetRegisters_cycles (s : State) : (s.resetRegisters).cycles = s.cycles := rfl
@[simp] theorem State.resetRegisters_trace (s : State) : (s.resetRegisters).trace = s.trace := rfl
@[simp] theorem State.resetRegisters_busLatch (s : State) : (s.resetRegisters).busLatch = s.busLatch := rfl
@[simp] theorem State.resetRegisters_mem (s : State) : (s.resetRegisters).mem = s.mem := rfl
@[simp] theorem State.resetRegisters_prgRom (s : State) : (s.resetRegisters).prgRom = s.prgRom := rfl
@[simp] theorem State.resetRegisters_prgRam (s : State) : (s.resetRegisters).prgRam = s.prgRam := rfl
@[simp] theorem State.resetRegisters_hookReads (s : State) : (s.resetRegisters).hookReads = s.hookReads := rfl
@[simp] theorem State.resetRegisters_hookCount (s : State) : (s.resetRegisters).hookCount = s.hookCount := rfl
@[simp] theorem State.resetRegisters_ticks (s : State) : (s.resetRegisters).ticks = s.ticks := rfl
@[simp] theorem State.resetRegisters_sp (s : State) : (s.resetRegisters).sp = 0xFD := rfl
@[simp] theorem State.resetRegisters_p (s : State) : (s.resetRegisters).p = { s.p with i := true } := rfl
@[simp] theorem State.resetRegisters_halted (s : State) : (s.resetRegisters).halted = false := rfl
@[simp] theorem State.resetRegisters_lines (s : State) : (s.resetRegisters).lines = { s.lines with nmiPending := false, resetPending := false } := rfl

/-! ### `beginStep` -/

@[simp] theorem State.beginStep_a (s : State) : (s.beginStep).a = s.a := rfl
@[simp] theorem State.beginStep_x (s : State) : (s.beginStep).x = s.x := rfl
@[simp] theorem State.beginStep_y (s : State) : (s.beginStep).y = s.y := rfl
@[simp] theorem State.beginStep_sp (s : State) : (s.beginStep).sp = s.sp := rfl
@[simp] theorem State.beginStep_pc (s : State) : (s.beginStep).pc = s.pc := rfl
@[simp] theorem State.beginStep_p (s : State) : (s.beginStep).p = s.p := rfl
@[simp] theorem State.beginStep_halted (s : State) : (s.beginStep).halted = s.halted := rfl
@[simp] theorem State.beginStep_lines (s : State) : (s.beginStep).lines = s.lines := rfl
@[simp] theorem State.beginStep_cyclesTotal (s : State) : (s.beginStep).cyclesTotal = s.cyclesTotal := rfl
@[simp] theorem State.beginStep_cycles (s : State) : (s.beginStep).cycles = s.cycles := rfl
@[simp] theorem State.beginStep_busLatch (s : State) : (s.beginStep).busLatch = s.busLatch := rfl
@[simp] theorem State.beginStep_mem (s : State) : (s.beginStep).mem = s.mem := rfl
@[simp] theorem State.beginStep_prgRom (s : State) : (s.beginStep).prgRom = s.prgRom := rfl
@[simp] theorem State.beginStep_prgRam (s : State) : (s.beginStep).prgRam = s.prgRam := rfl
@[simp] theorem State.beginStep_hookReads (s : State) : (s.beginStep).hookReads = s.hookReads := rfl
@[simp] theorem State.beginStep_hookCount (s : State) : (s.beginStep).hookCount = s.hookCount := rfl
@[simp] theorem State.beginStep_ticks (s : State) : (s.beginStep).ticks = s.ticks := rfl
@[simp] theorem State.beginStep_trace (s : State) : (s.beginStep).trace = [] := rfl

/-! ### `finishStep` -/

@[simp] theorem State.finishStep_a (s : State) : (s.finishStep).a = s.a := rfl
@[simp] theorem State.finishStep_x (s : State) : (s.finishStep).x = s.x := rfl
@[simp] theorem State.finishStep_y (s : State) : (s.finishStep).y = s.y := rfl
@[simp] theorem State.finishStep_sp (s : State) : (s.finishStep).sp = s.sp := rfl
@[simp] theorem State.finishStep_pc (s : State) : (s.finishStep).pc = s.pc := rfl
@[simp] theorem State.finishStep_p (s : State) : (s.finishStep).p = s.p := rfl
@[simp] theorem State.finishStep_halted (s : State) : (s.finishStep).halted = s.halted := rfl
@[simp] theorem State.finishStep_lines (s : State) : (s.finishStep).lines = s.lines := rfl
@[simp] theorem State.finishStep_trace (s : State) : (s.finishStep).trace = s.trace := rfl
@[simp] theorem State.finishStep_busLatch (s : State) : (s.finishStep).busLatch = s.busLatch := rfl
@[simp] theorem State.finishStep_mem (s : State) : (s.finishStep).mem = s.mem := rfl
@[simp] theorem State.finishStep_prgRom (s : State) : (s.finishStep).prgRom = s.prgRom := rfl
@[simp] theorem State.finishStep_prgRam (s : State) : (s.finishStep).prgRam = s.prgRam := rfl
@[simp] theorem State.finishStep_hookReads (s : State) : (s.finishStep).hookReads = s.hookReads := rfl
@[simp] theorem State.finishStep_hookCount (s : State) : (s.finishStep).hookCount = s.hookCount := rfl
@[simp] theorem State.finishStep_ticks (s : State) : (s.finishStep).ticks = s.ticks := rfl
@[simp] theorem State.finishStep_cycles (s : State) : (s.finishStep).cycles = s.trace.length := rfl
@[simp] theorem State.finishStep_cyclesTotal (s : State) : (s.finishStep).cyclesTotal = s.cyclesTotal + s.trace.length := rfl

/-! ### `haltedStep` -/

@[simp] theorem State.haltedStep_a (s : State) : (s.haltedStep).a = s.a := rfl
@[simp] theorem State.haltedStep_x (s : State) : (s.haltedStep).x = s.x := rfl
@[simp] theorem State.haltedStep_y (s : State) : (s.haltedStep).y = s.y := rfl
@[simp] theorem State.haltedStep_sp (s : State) : (s.haltedStep).sp = s.sp := rfl
@[simp] theorem State.haltedStep_pc (s : State) : (s.haltedStep).pc = s.pc := rfl
@[simp] theorem State.haltedStep_p (s : State) : (s.haltedStep).p = s.p := rfl
@[simp] theorem State.haltedStep_halted (s : State) : (s.haltedStep).halted = s.halted := rfl
@[simp] theorem State.haltedStep_lines (s : State) : (s.haltedStep).lines = s.lines := rfl
@[simp] theorem State.haltedStep_trace (s : State) : (s.haltedStep).trace = s.trace := rfl
@[simp] theorem State.haltedStep_busLatch (s : State) : (s.haltedStep).busLatch = s.busLatch := rfl
@[simp] theorem State.haltedStep_mem (s : State) : (s.haltedStep).mem = s.mem := rfl
@[simp] theorem State.haltedStep_prgRom (s : State) : (s.haltedStep).prgRom = s.prgRom := rfl
@[simp] theorem State.haltedStep_prgRam (s : State) : (s.haltedStep).prgRam = s.prgRam := rfl
@[simp] theorem State.haltedStep_hookReads (s : State) : (s.haltedStep).hookReads = s.hookReads := rfl
@[simp] theorem State.haltedStep_hookCount (s : State) : (s.haltedStep).hookCount = s.hookCount := rfl
@[simp] theorem State.haltedStep_ticks (s : State) : (s.haltedStep).ticks = s.ticks := rfl
@[simp] theorem State.haltedStep_cycles (s : State) : (s.haltedStep).cycles = 1 := rfl
@[simp] theorem State.haltedStep_cyclesTotal (s : State) : (s.haltedStep).cyclesTotal = s.cyclesTotal + 1 := rfl

/-! ### `setNmi` -/

@[simp] theorem State.setNmi_a (s : State) (level : Bool) : (s.setNmi level).a = s.a := rfl
@[simp] theorem State.setNmi_x (s : State) (level : Bool) : (s.setNmi level).x = s.x := rfl
@[simp] theorem State.setNmi_y (s : State) (level : Bool) : (s.setNmi level).y = s.y := rfl
@[simp] theorem State.setNmi_sp (s : State) (level : Bool) : (s.setNmi level).sp = s.sp := rfl
@[simp] theorem State.setNmi_pc (s : State) (level : Bool) : (s.setNmi level).pc = s.pc := rfl
@[simp] theorem State.setNmi_p (s : State) (level : Bool) : (s.setNmi level).p = s.p := rfl
@[simp] theorem State.setNmi_halted (s : State) (level : Bool) : (s.setNmi level).halted = s.halted := rfl
@[simp] theorem State.setNmi_cyclesTotal (s : State) (level : Bool) : (s.setNmi level).cyclesTotal = s.cyclesTotal := rfl
@[simp] theorem State.setNmi_cycles (s : State) (level : Bool) : (s.setNmi level).cycles = s.cycles := rfl
@[simp] theorem State.setNmi_trace (s : State) (level : Bool) : (s.setNmi level).trace = s.trace := rfl
@[simp] theorem State.setNmi_busLatch (s : State) (level : Bool) : (s.setNmi level).busLatch = s.busLatch := rfl
@[simp] theorem State.setNmi_mem (s : State) (level : Bool) : (s.setNmi level).mem = s.mem := rfl
@[simp] theorem State.setNmi_prgRom (s : State) (level : Bool) : (s.setNmi level).prgRom = s.prgRom := rfl
@[simp] theorem State.setNmi_prgRam (s : State) (level : Bool) : (s.setNmi level).prgRam = s.prgRam := rfl
@[simp] theorem State.setNmi_hookReads (s : State) (level : Bool) : (s.setNmi level).hookReads = s.hookReads := rfl
@[simp] theorem State.setNmi_hookCount (s : State) (level : Bool) : (s.setNmi level).hookCount = s.hookCount := rfl
@[simp] theorem State.setNmi_ticks (s : State) (level : Bool) : (s.setNmi level).ticks = s.ticks := rfl
@[simp] theorem State.setNmi_lines (s : State) (level : Bool) : (s.setNmi level).lines = s.lines.setNmi level := rfl

/-! ### `setIrq` -/

@[simp] theorem State.setIrq_a (s : State) (level : Bool) : (s.setIrq level).a = s.a := rfl
@[simp] theorem State.setIrq_x (s : State) (level : Bool) : (s.setIrq level).x = s.x := rfl
@[simp] theorem State.setIrq_y (s : State) (level : Bool) : (s.setIrq level).y = s.y := rfl
@[simp] theorem State.setIrq_sp (s : State) (level : Bool) : (s.setIrq level).sp = s.sp := rfl
@[simp] theorem State.setIrq_pc (s : State) (level : Bool) : (s.setIrq level).pc = s.pc := rfl
@[simp] theorem State.setIrq_p (s : State) (level : Bool) : (s.setIrq level).p = s.p := rfl
@[simp] theorem State.setIrq_halted (s : State) (level : Bool) : (s.setIrq level).halted = s.halted := rfl
@[simp] theorem State.setIrq_cyclesTotal (s : State) (level : Bool) : (s.setIrq level).cyclesTotal = s.cyclesTotal := rfl
@[simp] theorem State.setIrq_cycles (s : State) (level : Bool) : (s.setIrq level).cycles = s.cycles := rfl
@[simp] theorem State.setIrq_trace (s : State) (level : Bool) : (s.setIrq level).trace = s.trace := rfl
@[simp] theorem State.setIrq_busLatch (s : State) (level : Bool) : (s.setIrq level).busLatch = s.busLatch := rfl
@[simp] theorem State.setIrq_mem (s : State) (level : Bool) : (s.setIrq level).mem = s.mem := rfl
@[simp] theorem State.setIrq_prgRom (s : State) (level : Bool) : (s.setIrq level).prgRom = s.prgRom := rfl
@[simp] theorem State.setIrq_prgRam (s : State) (level : Bool) : (s.setIrq level).prgRam = s.prgRam := rfl
@[simp] theorem State.setIrq_hookReads (s : State) (level : Bool) : (s.setIrq level).hookReads = s.hookReads := rfl
@[simp] theorem State.setIrq_hookCount (s : State) (level : Bool) : (s.setIrq level).hookCount = s.hookCount := rfl
@[simp] theorem State.setIrq_ticks (s : State) (level : Bool) : (s.setIrq level).ticks = s.ticks := rfl
@[simp] theorem State.setIrq_lines (s : State) (level : Bool) : (s.setIrq level).lines = s.lines.setIrq level := rfl

/-! ### `assertReset` -/

@[simp] theorem State.assertReset_a (s : State) : (s.assertReset).a = s.a := rfl
@[simp] theorem State.assertReset_x (s : State) : (s.assertReset).x = s.x := rfl
@[simp] theorem State.assertReset_y (s : State) : (s.assertReset).y = s.y := rfl
@[simp] theorem State.assertReset_sp (s : State) : (s.assertReset).sp = s.sp := rfl
@[simp] theorem State.assertReset_pc (s : State) : (s.assertReset).pc = s.pc := rfl
@[simp] theorem State.assertReset_p (s : State) : (s.assertReset).p = s.p := rfl
@[simp] theorem State.assertReset_halted (s : State) : (s.assertReset).halted = s.halted := rfl
@[simp] theorem State.assertReset_cyclesTotal (s : State) : (s.assertReset).cyclesTotal = s.cyclesTotal := rfl
@[simp] theorem State.assertReset_cycles (s : State) : (s.assertReset).cycles = s.cycles := rfl
@[simp] theorem State.assertReset_trace (s : State) : (s.assertReset).trace = s.trace := rfl
@[simp] theorem State.assertReset_busLatch (s : State) : (s.assertReset).busLatch = s.busLatch := rfl
@[simp] theorem State.assertReset_mem (s : State) : (s.assertReset).mem = s.mem := rfl
@[simp] theorem State.assertReset_prgRom (s : State) : (s.assertReset).prgRom = s.prgRom := rfl
@[simp] theorem State.assertReset_prgRam (s : State) : (s.assertReset).prgRam = s.prgRam := rfl
@[simp] theorem State.assertReset_hookReads (s : State) : (s.assertReset).hookReads = s.hookReads := rfl
@[simp] theorem State.assertReset_hookCount (s : State) : (s.assertReset).hookCount = s.hookCount := rfl
@[simp] theorem State.assertReset_ticks (s : State) : (s.assertReset).ticks = s.ticks := rfl
@[simp] theorem State.assertReset_lines (s : State) : (s.assertReset).lines = s.lines.assertReset := rfl

/-! ### `loadA` -/

@[simp] theorem State.loadA_x (s : State) (v : Byte) : (State.loadA v s).x = s.x := rfl
@[simp] theorem State.loadA_y (s : State) (v : Byte) : (State.loadA v s).y = s.y := rfl
@[simp] theorem State.loadA_sp (s : State) (v : Byte) : (State.loadA v s).sp = s.sp := rfl
@[simp] theorem State.loadA_pc (s : State) (v : Byte) : (State.loadA v s).pc = s.pc := rfl
@[simp] theorem State.loadA_halted (s : State) (v : Byte) : (State.loadA v s).halted = s.halted := rfl
@[simp] theorem State.loadA_lines (s : State) (v : Byte) : (State.loadA v s).lines = s.lines := rfl
@[simp] theorem State.loadA_cyclesTotal (s : State) (v : Byte) : (State.loadA v s).cyclesTotal = s.cyclesTotal := rfl
@[simp] theorem State.loadA_cycles (s : State) (v : Byte) : (State.loadA v s).cycles = s.cycles := rfl
@[simp] theorem State.loadA_trace (s : State) (v : Byte) : (State.loadA v s).trace = s.trace := rfl
@[simp] theorem State.loadA_busLatch (s : State) (v : Byte) : (State.loadA v s).busLatch = s.busLatch := rfl
@[simp] theorem State.loadA_mem (s : State) (v : Byte) : (State.loadA v s).mem = s.mem := rfl
@[simp] theorem State.loadA_prgRom (s : State) (v : Byte) : (State.loadA v s).prgRom = s.prgRom := rfl
@[simp] theorem State.loadA_prgRam (s : State) (v : Byte) : (State.loadA v s).prgRam = s.prgRam := rfl
@[simp] theorem State.loadA_hookReads (s : State) (v : Byte) : (State.loadA v s).hookReads = s.hookReads := rfl
@[simp] theorem State.loadA_hookCount (s : State) (v : Byte) : (State.loadA v s).hookCount = s.hookCount := rfl
@[simp] theorem State.loadA_ticks (s : State) (v : Byte) : (State.loadA v s).ticks = s.ticks := rfl
@[simp] theorem State.loadA_a (s : State) (v : Byte) : (State.loadA v s).a = v := rfl
@[simp] theorem State.loadA_p (s : State) (v : Byte) : (State.loadA v s).p = s.p.nz v := rfl

/-! ### `loadX` -/

@[simp] theorem State.loadX_a (s : State) (v : Byte) : (State.loadX v s).a = s.a := rfl
@[simp] theorem State.loadX_y (s : State) (v : Byte) : (State.loadX v s).y = s.y := rfl
@[simp] theorem State.loadX_sp (s : State) (v : Byte) : (State.loadX v s).sp = s.sp := rfl
@[simp] theorem State.loadX_pc (s : State) (v : Byte) : (State.loadX v s).pc = s.pc := rfl
@[simp] theorem State.loadX_halted (s : State) (v : Byte) : (State.loadX v s).halted = s.halted := rfl
@[simp] theorem State.loadX_lines (s : State) (v : Byte) : (State.loadX v s).lines = s.lines := rfl
@[simp] theorem State.loadX_cyclesTotal (s : State) (v : Byte) : (State.loadX v s).cyclesTotal = s.cyclesTotal := rfl
@[simp] theorem State.loadX_cycles (s : State) (v : Byte) : (State.loadX v s).cycles = s.cycles := rfl
@[simp] theorem State.loadX_trace (s : State) (v : Byte) : (State.loadX v s).trace = s.trace := rfl
@[simp] theorem State.loadX_busLatch (s : State) (v : Byte) : (State.loadX v s).busLatch = s.busLatch := rfl
@[simp] theorem State.loadX_mem (s : State) (v : Byte) : (State.loadX v s).mem = s.mem := rfl
@[simp] theorem State.loadX_prgRom (s : State) (v : Byte) : (State.loadX v s).prgRom = s.prgRom := rfl
@[simp] theorem State.loadX_prgRam (s : State) (v : Byte) : (State.loadX v s).prgRam = s.prgRam := rfl
@[simp] theorem State.loadX_hookReads (s : State) (v : Byte) : (State.loadX v s).hookReads = s.hookReads := rfl
@[simp] theorem State.loadX_hookCount (s : State) (v : Byte) : (State.loadX v s).hookCount = s.hookCount := rfl
@[simp] theorem State.loadX_ticks (s : State) (v : Byte) : (State.loadX v s).ticks = s.ticks := rfl
@[simp] theorem State.loadX_x (s : State) (v : Byte) : (State.loadX v s).x = v := rfl
@[simp] theorem State.loadX_p (s : State) (v : Byte) : (State.loadX v s).p = s.p.nz v := rfl

/-! ### `loadY` -/

@[simp] theorem State.loadY_a (s : State) (v : Byte) : (State.loadY v s).a = s.a := rfl
@[simp] theorem State.loadY_x (s : State) (v : Byte) : (State.loadY v s).x = s.x := rfl
@[simp] theorem State.loadY_sp (s : State) (v : Byte) : (State.loadY v s).sp = s.sp := rfl
@[simp] theorem State.loadY_pc (s : State) (v : Byte) : (State.loadY v s).pc = s.pc := rfl
@[simp] theorem State.loadY_halted (s : State) (v : Byte) : (State.loadY v s).halted = s.halted := rfl
@[simp] theorem State.loadY_lines (s : State) (v : Byte) : (State.loadY v s).lines = s.lines := rfl
@[simp] theorem State.loadY_cyclesTotal (s : State) (v : Byte) : (State.loadY v s).cyclesTotal = s.cyclesTotal := rfl
@[simp] theorem State.loadY_cycles (s : State) (v : Byte) : (State.loadY v s).cycles = s.cycles := rfl
@[simp] theorem State.loadY_trace (s : State) (v : Byte) : (State.loadY v s).trace = s.trace := rfl
@[simp] theorem State.loadY_busLatch (s : State) (v : Byte) : (State.loadY v s).busLatch = s.busLatch := rfl
@[simp] theorem State.loadY_mem (s : State) (v : Byte) : (State.loadY v s).mem = s.mem := rfl
@[simp] theorem State.loadY_prgRom (s : State) (v : Byte) : (State.loadY v s).prgRom = s.prgRom := rfl
@[simp] theorem State.loadY_prgRam (s : State) (v : Byte) : (State.loadY v s).prgRam = s.prgRam := rfl
@[simp] theorem State.loadY_hookReads (s : State) (v : Byte) : (State.loadY v s).hookReads = s.hookReads := rfl
@[simp] theorem State.loadY_hookCount (s : State) (v : Byte) : (State.loadY v s).hookCount = s.hookCount := rfl
@[simp] theorem State.loadY_ticks (s : State) (v : Byte) : (State.loadY v s).ticks = s.ticks := rfl
@[simp] theorem State.loadY_y (s : State) (v : Byte) : (State.loadY v s).y = v := rfl
@[simp] theorem State.loadY_p (s : State) (v : Byte) : (State.loadY v s).p = s.p.nz v := rfl

end Sys2Proof.Machine
end

