-- ==== Sys2Proof/Laws/Bus.lean ====
section
/-! SUPPORT. What the shared operations can do, said once: the accesses they make, the storage they keep,
and their composition. -/

namespace Sys2Proof.Machine

/-! ## Accesses -/

@[simp] theorem windowReads_nil (s : State) : s.windowReads [] = 0 := rfl

theorem windowReads_append (s : State) (l l' : List BusAccess) :
    s.windowReads (l ++ l') = s.windowReads l + s.windowReads l' := List.countP_append

/-- Only the configuration decides which addresses are windows. -/
theorem windowReads_congr {s t : State} (h1 : t.prgRom = s.prgRom) (h2 : t.prgRam = s.prgRam)
    (l : List BusAccess) : t.windowReads l = s.windowReads l := by
  simp only [State.windowReads, State.region, h1, h2]

theorem windowReads_read (s : State) (addr : Word) (v : Byte) :
    s.windowReads [rd addr v] = if (s.region addr).hook.isSome then 1 else 0 := by
  simp [State.windowReads, List.countP_cons]

@[simp] theorem windowReads_write (s : State) (addr : Word) (v : Byte) : s.windowReads [wr addr v] = 0 := rfl

theorem RanWith.refl (s : State) : RanWith s s [] := by simp [RanWith, Lines.signals]

theorem RanWith.trans {s t u : State} {l l' : List BusAccess} (h : RanWith s t l) (h' : RanWith t u l') :
    RanWith s u (l ++ l') := by
  obtain ⟨h1, h2, h3, h4, h5, h6, h7, h8, h9, h10⟩ := h
  obtain ⟨g1, g2, g3, g4, g5, g6, g7, g8, g9, g10⟩ := h'
  rw [windowReads_congr h5 h6] at g9 g10
  refine ⟨by rw [g1, h1, List.append_assoc], ?_, ?_, ?_, g5.trans h5, g6.trans h6, g7.trans h7, g8.trans h8, ?_, ?_⟩
  · rw [g2, h2]
    rcases List.eq_nil_or_concat l' with rfl | ⟨l'', e, rfl⟩
    · simp
    · simp [List.getLast?_append]
  · rw [g3, h3, h4, List.length_append, List.take_add, List.flatten_append]
    simp [Lines.signals, List.foldl_append]
  · rw [g4, h4, List.drop_drop, List.length_append]
  · rw [g9, h9, List.drop_drop, windowReads_append]
  · rw [g10, h10, windowReads_append, Nat.add_assoc]

theorem take_one_flatten (l : List (List Signal)) : (l.take 1).flatten = l.headD [] := by
  cases l <;> simp

/-- A read is one access; the hook answer is used up where the address is a window. -/
theorem RanWith.read (s : State) (addr : Word) : RanWith s (s.read addr) [⟨.read, addr, s.peek addr⟩] := by
  refine ⟨rfl, rfl, ?_, ?_, rfl, rfl, rfl, rfl, ?_, ?_⟩
  · simp [take_one_flatten]
  · simp
  · rw [windowReads_read]
    show (if (s.region addr).hook.isSome then s.hookReads.tail else s.hookReads) = _
    split <;> simp
  · rw [windowReads_read]
    show (if (s.region addr).hook.isSome then s.hookCount + 1 else s.hookCount) = _
    split <;> rfl

/-- A write is one access; it asks no hook for an answer. -/
theorem RanWith.write (s : State) (addr : Word) (v : Byte) :
    RanWith s (s.write addr v) [⟨.write, addr, v⟩] := by
  refine ⟨rfl, rfl, ?_, ?_, rfl, rfl, rfl, rfl, rfl, rfl⟩
  · simp [take_one_flatten]
  · simp

/-- A push is one write (R78). -/
theorem RanWith.push (s : State) (v : Byte) : RanWith s (s.push v) [⟨.write, stackPage s.sp, v⟩] :=
  RanWith.write s _ v

/-- A pull is one read (R78). -/
theorem RanWith.pull (s : State) : RanWith s s.pull [⟨.read, stackPage (s.sp + 1), s.peekPull⟩] :=
  RanWith.read s _

/-- A fetch is one read (R25). -/
theorem RanWith.fetch (s : State) : RanWith s s.fetch [⟨.read, s.pc, s.peekFetch⟩] := RanWith.read s _

theorem Ran.refl (s : State) : Ran s s 0 := ⟨[], rfl, RanWith.refl s⟩

theorem Ran.trans {s t u : State} {n n' : Nat} (h : Ran s t n) (h' : Ran t u n') : Ran s u (n + n') := by
  obtain ⟨l, rfl, hl⟩ := h
  obtain ⟨l', rfl, hl'⟩ := h'
  exact ⟨l ++ l', List.length_append, hl.trans hl'⟩

theorem RanWith.ran {s t : State} {l : List BusAccess} (h : RanWith s t l) : Ran s t l.length := ⟨l, rfl, h⟩

theorem Ran.read (s : State) (addr : Word) : Ran s (s.read addr) 1 := (RanWith.read s addr).ran

theorem Ran.write (s : State) (addr : Word) (v : Byte) : Ran s (s.write addr v) 1 := (RanWith.write s addr v).ran

theorem Ran.push (s : State) (v : Byte) : Ran s (s.push v) 1 := Ran.write s _ v

theorem Ran.pull (s : State) : Ran s s.pull 1 := Ran.read s _

theorem Ran.fetch (s : State) : Ran s s.fetch 1 := Ran.read s _

theorem Ran.read16 (s : State) (addr : Word) : Ran s (s.read16 addr) 2 := (Ran.read s _).trans (Ran.read _ _)

theorem Ran.read16Wrap (s : State) (addr : Word) : Ran s (s.read16Wrap addr) 2 :=
  (Ran.read s _).trans (Ran.read _ _)

theorem Ran.jumpVector (s : State) (vec : Word) : Ran s (s.jumpVector vec) 2 := Ran.read16 s vec

/-! ## Storage -/

/-- What no access can undo: well-formed storage stays so, and no byte of PRG-ROM changes (R68). -/
def Keeps (s t : State) : Prop :=
  (s.StorageOk → t.StorageOk) ∧ t.prgRom = s.prgRom ∧ t.prgRam = s.prgRam ∧
  ∀ k, 0x8000 ≤ k → Memory.read t.mem k = Memory.read s.mem k

theorem Keeps.refl (s : State) : Keeps s s := ⟨id, rfl, rfl, fun _ _ => rfl⟩

theorem Keeps.trans {s t u : State} (h : Keeps s t) (h' : Keeps t u) : Keeps s u :=
  ⟨fun hs => h'.1 (h.1 hs), h'.2.1.trans h.2.1, h'.2.2.1.trans h.2.2.1,
    fun k hk => (h'.2.2.2 k hk).trans (h.2.2.2 k hk)⟩

theorem Keeps.read (s : State) (addr : Word) : Keeps s (s.read addr) := Keeps.refl s

theorem Keeps.write (s : State) (addr : Word) (v : Byte) : Keeps s (s.write addr v) := by
  unfold State.write
  cases h : (s.region addr).writableCell with
  | none => exact Keeps.refl s
  | some k =>
    refine ⟨fun hs => ⟨Memory.wf_write hs.1 k v, Memory.all_write hs.2 k v ?_⟩, rfl, rfl, fun j hj => ?_⟩
    · exact cell_exists (Region.cell_of_writable h)
    · exact Memory.read_write_other _ _ (by have := writable_below_rom h; omega)

theorem Keeps.push (s : State) (v : Byte) : Keeps s (s.push v) := Keeps.write s _ v

theorem Keeps.read16 (s : State) (addr : Word) : Keeps s (s.read16 addr) := Keeps.refl s

theorem aliases_write (s : State) (addr b a : Word) (v : Byte) :
    (s.write addr v).aliases a b = s.aliases a b := rfl

/-- What every address holds after one write (R63, R67, R68). -/
theorem Stores.write {s : State} (hs : Memory.wf s.mem = true) (addr : Word) (v : Byte) :
    Stores s (s.write addr v) [(addr, v)] := by
  intro b
  simp only [List.reverse_singleton, State.storedAfter, State.aliases]
  unfold State.stored State.region State.write
  simp only [State.region]
  rcases Option.eq_none_or_eq_some (regionOf s.prgRom s.prgRam addr).writableCell with h | ⟨k, h⟩
  · simp [h]
  · simp only [h, Option.isSome_some, Bool.true_and, decide_eq_true_eq]
    split
    · rename_i hb
      simp [hb, Memory.read_write_same hs]
    · rename_i hb
      cases hc : (regionOf s.prgRom s.prgRam b).cell with
      | none => rfl
      | some j =>
        have : j ≠ k := fun h => hb (by rw [hc, h])
        simp [Memory.read_write_other _ _ this]

theorem Stores.refl (s : State) : Stores s s [] := fun _ => rfl

theorem storedAfter_append (s : State) (l l' : List (Word × Byte)) (b : Word)
    (t : State) (ht : ∀ b, t.stored b = s.storedAfter l' b) (hr : ∀ a, t.region a = s.region a) :
    s.storedAfter (l ++ l') b = t.storedAfter l b := by
  induction l with
  | nil => exact (ht b).symm
  | cons e l ih =>
    simp only [List.cons_append, State.storedAfter, ih, State.aliases, hr]

/-- Writes compose. -/
theorem Stores.trans {s t u : State} {l l' : List (Word × Byte)} (h : Stores s t l) (h' : Stores t u l')
    (hr : ∀ a, t.region a = s.region a) : Stores s u (l ++ l') := by
  intro b
  rw [h' b, List.reverse_append]
  exact (storedAfter_append s _ _ b t h hr).symm

@[simp] theorem stored_read (s : State) (addr b : Word) : (s.read addr).stored b = s.stored b := rfl

/-- Where storage backs an address, a bus read returns what storage holds. -/
theorem peek_of_stored {s : State} {addr : Word} {v : Byte} (h : s.stored addr = some v) : s.peek addr = v := by
  unfold State.peek
  cases hh : (s.region addr).hook with
  | none => simp [h]
  | some p =>
    have := Region.cell_of_hook (r := s.region addr) (by simp [hh])
    simp [State.stored, this] at h

/-! ## Registers beside the bus -/

theorem RanWith.setPc {s t : State} {l : List BusAccess} (h : RanWith s t l) (w : Word) :
    RanWith s (t.setPc w) l := h

theorem RanWith.setSp {s t : State} {l : List BusAccess} (h : RanWith s t l) (v : Byte) :
    RanWith s (t.setSp v) l := h

theorem RanWith.setP {s t : State} {l : List BusAccess} (h : RanWith s t l) (p : Flags) :
    RanWith s (t.setP p) l := h

@[simp] theorem peek_setPc (s : State) (w addr : Word) : (s.setPc w).peek addr = s.peek addr := rfl
@[simp] theorem peek_setSp (s : State) (v : Byte) (addr : Word) : (s.setSp v).peek addr = s.peek addr := rfl
@[simp] theorem peek_setP (s : State) (p : Flags) (addr : Word) : (s.setP p).peek addr = s.peek addr := rfl

@[simp] theorem stored_setPc (s : State) (w b : Word) : (s.setPc w).stored b = s.stored b := rfl
@[simp] theorem stored_setSp (s : State) (v : Byte) (b : Word) : (s.setSp v).stored b = s.stored b := rfl
@[simp] theorem stored_setP (s : State) (p : Flags) (b : Word) : (s.setP p).stored b = s.stored b := rfl
@[simp] theorem stored_pull (s : State) (b : Word) : s.pull.stored b = s.stored b := rfl
@[simp] theorem stored_fetch (s : State) (b : Word) : s.fetch.stored b = s.stored b := rfl

@[simp] theorem region_read (s : State) (addr b : Word) : (s.read addr).region b = s.region b := rfl
@[simp] theorem region_write (s : State) (addr b : Word) (v : Byte) : (s.write addr v).region b = s.region b := rfl

@[simp] theorem regs_read (s : State) (addr : Word) : (s.read addr).regs = s.regs := rfl
@[simp] theorem regs_write (s : State) (addr : Word) (v : Byte) : (s.write addr v).regs = s.regs := rfl
@[simp] theorem regs_setPc (s : State) (w : Word) : (s.setPc w).regs = { s.regs with pc := w } := rfl
@[simp] theorem regs_setSp (s : State) (v : Byte) : (s.setSp v).regs = { s.regs with sp := v } := rfl
@[simp] theorem regs_setP (s : State) (p : Flags) : (s.setP p).regs = { s.regs with p := p } := rfl
@[simp] theorem regs_push (s : State) (v : Byte) : (s.push v).regs = { s.regs with sp := s.sp - 1 } := rfl
@[simp] theorem regs_pull (s : State) : s.pull.regs = { s.regs with sp := s.sp + 1 } := rfl
@[simp] theorem regs_fetch (s : State) : s.fetch.regs = { s.regs with pc := s.pc + 1 } := rfl

theorem region_stackPage (s : State) (k : Byte) : s.region (stackPage k) = .ram (0x100 + k.toNat) :=
  regionOf_stackPage _ _ _

/-- A byte of the stack page is a byte of internal RAM (R78). -/
theorem stored_stackPage (s : State) (k : Byte) :
    s.stored (stackPage k) = some (Memory.read s.mem (0x100 + k.toNat)) := by
  simp only [State.stored, region_stackPage, Region.cell, Option.map_some]

/-- Reading the stack page reads internal RAM (R78). -/
theorem peek_stackPage (s : State) (k : Byte) : s.peek (stackPage k) = Memory.read s.mem (0x100 + k.toNat) :=
  peek_of_stored (stored_stackPage s k)

/-- The byte a pull returns is the byte of internal RAM above S (R78). -/
theorem peekPull_eq (s : State) : s.peekPull = Memory.read s.mem (0x100 + (s.sp + 1).toNat) :=
  peek_stackPage s _

/-! ## PRG-ROM -/

/-- An address of $8000-$FFFF names a byte of PRG-ROM (R68). -/
theorem region_rom (s : State) {addr : Word} (h : 0x8000 ≤ addr.toNat) :
    s.region addr = .prgRom ((addr.toNat - 0x8000) % romBytes s.prgRom) := by
  simp only [State.region, regionOf]
  rw [if_neg (by omega), if_neg (by omega), if_neg (by omega), if_neg (by omega), if_neg (by omega)]

theorem stored_rom (s : State) {addr : Word} (h : 0x8000 ≤ addr.toNat) :
    s.stored addr = some (Memory.read s.mem (0x8000 + (addr.toNat - 0x8000) % romBytes s.prgRom)) := by
  simp only [State.stored, region_rom s h, Region.cell, Option.map_some]

/-- What no access can undo includes what the addresses of PRG-ROM hold (R68). -/
theorem Keeps.stored_rom {s t : State} (hk : Keeps s t) {addr : Word} (h : 0x8000 ≤ addr.toNat) :
    t.stored addr = s.stored addr := by
  rw [Machine.stored_rom t h, Machine.stored_rom s h, hk.2.1, hk.2.2.2 _ (Nat.le_add_right _ _)]

/-! ## The access tails -/

theorem Ran.resolveState (m : MemOperand) (s : State) :
    Ran s (Machine.resolveState m s) (match m with
      | .zp _ | .abs _ | .absX _ | .absY _ => 0
      | .zpX _ | .zpY _ => 1
      | .indX _ => 3
      | .indY _ => 2) := by
  cases m with
  | zp | abs | absX | absY => exact Ran.refl s
  | zpX | zpY => exact Ran.read s _
  | indX z => exact (Ran.read s _).trans (Ran.read16Wrap _ _)
  | indY z => exact Ran.read16Wrap s _

theorem Keeps.resolveState (m : MemOperand) (s : State) : Keeps s (Machine.resolveState m s) := by
  cases m <;> exact Keeps.refl s

theorem resolveState_regs (m : MemOperand) (s : State) : (resolveState m s).regs = s.regs := by
  cases m <;> rfl

theorem resolveState_mem (m : MemOperand) (s : State) : (resolveState m s).mem = s.mem := by
  cases m <;> rfl

theorem tailDummy_regs (m : MemOperand) (s : State) : (tailDummy m s).regs = s.regs := by
  unfold tailDummy
  split <;> exact resolveState_regs m s

theorem tailDummy_mem (m : MemOperand) (s : State) : (tailDummy m s).mem = s.mem := by
  unfold tailDummy
  split <;> exact resolveState_mem m s

theorem readTail_regs (m : MemOperand) (s : State) : (readTail m s).regs = s.regs := by
  unfold readTail
  split <;> exact resolveState_regs m s

theorem readTail_mem (m : MemOperand) (s : State) : (readTail m s).mem = s.mem := by
  unfold readTail
  split <;> exact resolveState_mem m s

theorem Keeps.tailDummy (m : MemOperand) (s : State) : Keeps s (Machine.tailDummy m s) := by
  unfold Machine.tailDummy
  split
  · exact (Keeps.resolveState m s).trans (Keeps.read _ _)
  · exact Keeps.resolveState m s

theorem Keeps.loadState (m : MemOperand) (s : State) : Keeps s (Machine.loadState m s) := by
  unfold Machine.loadState readTail
  split
  · exact ((Keeps.resolveState m s).trans (Keeps.read _ _)).trans (Keeps.read _ _)
  · exact (Keeps.resolveState m s).trans (Keeps.read _ _)

theorem Keeps.modifyState (m : MemOperand) (v : Byte) (s : State) : Keeps s (Machine.modifyState m v s) :=
  (((Keeps.tailDummy m s).trans (Keeps.read _ _)).trans (Keeps.write _ _ _)).trans (Keeps.write _ _ _)

theorem loadState_regs (m : MemOperand) (s : State) : (loadState m s).regs = s.regs := readTail_regs m s

theorem modifyState_regs (m : MemOperand) (v : Byte) (s : State) : (modifyState m v s).regs = s.regs :=
  tailDummy_regs m s

theorem Keeps.jumpVector (s : State) (vec : Word) : Keeps s (s.jumpVector vec) := Keeps.refl s

theorem Keeps.maskIrq (s : State) : Keeps s s.maskIrq := Keeps.refl s

theorem Keeps.selectVector (s : State) (kind : InterruptKind) : Keeps s (s.selectVector kind) := by
  cases kind <;> exact Keeps.refl s

theorem Keeps.beginEntry (s : State) (kind : InterruptKind) : Keeps s (s.beginEntry kind) := by
  cases kind <;> exact Keeps.refl s

theorem Keeps.resetRegisters (s : State) : Keeps s s.resetRegisters := Keeps.refl s

/-- Taking an interrupt writes only through the stack pushes (R407). -/
theorem Keeps.interruptSequence (s : State) (kind : InterruptKind) : Keeps s (s.interruptSequence kind) := by
  unfold State.interruptSequence
  dsimp only
  refine Keeps.trans ?_ (Keeps.jumpVector _ _)
  refine Keeps.trans ?_ (Keeps.maskIrq _)
  refine Keeps.trans ?_ (Keeps.push _ _)
  refine Keeps.trans ?_ (Keeps.selectVector _ _)
  refine Keeps.trans ?_ (Keeps.push _ _)
  exact (Keeps.beginEntry s kind).trans (Keeps.push _ _)

/-- The reset sequence writes nothing (R450). -/
theorem Keeps.resetSequence (s : State) : Keeps s s.resetSequence := by
  unfold State.resetSequence
  dsimp only
  refine Keeps.trans ?_ (Keeps.jumpVector _ _)
  refine Keeps.trans ?_ (Keeps.resetRegisters _)
  refine Keeps.trans ?_ (Keeps.read _ _)
  refine Keeps.trans ?_ (Keeps.read _ _)
  refine Keeps.trans ?_ (Keeps.read _ _)
  exact (Keeps.read s _).trans (Keeps.read _ _)

/-! ## The canonical form at reset, at construction and under a loader -/

theorem reset_mem_wf : Memory.wf State.reset.mem = true := rfl

theorem reset_storageOk : State.reset.StorageOk := ⟨rfl, rfl⟩

/-- A loader's byte keeps the storage well formed. -/
theorem State.place_storageOk {s : State} (hs : s.StorageOk) (addr : Word) (v : Byte) :
    (s.place addr v).StorageOk := by
  unfold State.place
  cases hc : (s.region addr).cell with
  | none => exact hs
  | some k => exact ⟨Memory.wf_write hs.1 k v, Memory.all_write hs.2 k v (cell_exists hc)⟩

/-- What a loader places is what the address then holds. -/
theorem State.stored_place {s : State} (hs : Memory.wf s.mem = true) {addr : Word}
    (hb : (s.region addr).cell.isSome = true) (v : Byte) : (s.place addr v).stored addr = some v := by
  obtain ⟨k, hc⟩ := Option.isSome_iff_exists.mp hb
  have hr : (regionOf s.prgRom s.prgRam addr).cell = some k := hc
  simp [State.place, State.stored, State.region, hr, Memory.read_write_same hs]

end Sys2Proof.Machine
end

