-- ==== Sys2Proof/Laws/Classes.lean ====
section
/-! SUPPORT. What the access classes of the resolver do, said once: the register effect they carry, the
accesses they make and the storage they change. -/

namespace Sys2Proof.Machine

/-! ## Effects on registers -/

/-- A state with other registers. -/
def State.withRegs (s : State) (q : Regs) : State :=
  { s with a := q.a, x := q.x, y := q.y, sp := q.sp, pc := q.pc, p := q.p, halted := q.halted }

@[simp] theorem withRegs_regs (s : State) (q : Regs) : (s.withRegs q).regs = q := rfl

/-- A function on states that only maps the registers. -/
def OnRegs (f : State → State) (g : Regs → Regs) : Prop := ∀ s : State, f s = s.withRegs (g s.regs)

theorem RanWith.of_eq {s t t' : State} {l : List BusAccess} (h : RanWith s t l)
    (e : t'.trace = t.trace ∧ t'.busLatch = t.busLatch ∧ t'.lines = t.lines ∧ t'.ticks = t.ticks ∧
      t'.prgRom = t.prgRom ∧ t'.prgRam = t.prgRam ∧ t'.cycles = t.cycles ∧ t'.cyclesTotal = t.cyclesTotal ∧
      t'.hookReads = t.hookReads ∧ t'.hookCount = t.hookCount) :
    RanWith s t' l := by
  obtain ⟨e1, e2, e3, e4, e5, e6, e7, e8, e9, e10⟩ := e
  simpa only [RanWith, e1, e2, e3, e4, e5, e6, e7, e8, e9, e10] using h

theorem RanWith.withRegs {s t : State} {l : List BusAccess} (h : RanWith s t l) (q : Regs) :
    RanWith s (t.withRegs q) l := h

theorem Ran.withRegs {s t : State} {n : Nat} (h : Ran s t n) (q : Regs) : Ran s (t.withRegs q) n := h

theorem Stores.withRegs {s t : State} {l : List (Word × Byte)} (h : Stores s t l) (q : Regs) :
    Stores s (t.withRegs q) l := h

theorem Keeps.withRegs (s : State) (q : Regs) : Keeps s (s.withRegs q) := Keeps.refl s

/-! ## Storage of reads -/

theorem Stores.of_mem {s t : State} (h : t.mem = s.mem) (h1 : t.prgRom = s.prgRom) (h2 : t.prgRam = s.prgRam) :
    Stores s t [] := by
  intro b
  simp only [State.stored, State.region, h, h1, h2, List.reverse_nil, State.storedAfter]

theorem Stores.read (s : State) (addr : Word) : Stores s (s.read addr) [] := fun _ => rfl

/-! ## The resolver -/

/-- How many accesses compute an effective address (R134 to R139). -/
def pointerCount : MemOperand → Nat
  | .zp _ | .abs _ | .absX _ | .absY _ => 0
  | .zpX _ | .zpY _ => 1
  | .indX _ => 3
  | .indY _ => 2

/-- The accesses of the resolver, by address. -/
theorem RanWith.resolveState (m : MemOperand) (s : State) :
    ∃ l, RanWith s (Machine.resolveState m s) l ∧ shape l = (pointerReads m s).map fun a => (.read, a) := by
  cases m with
  | zp | abs | absX | absY => exact ⟨[], RanWith.refl s, rfl⟩
  | zpX z => exact ⟨_, RanWith.read s (zeroPage z), rfl⟩
  | zpY z => exact ⟨_, RanWith.read s (zeroPage z), rfl⟩
  | indX z =>
    refine ⟨_, ((RanWith.read s (zeroPage z)).trans (RanWith.read _ (zeroPage (z + s.x)))).trans
      (RanWith.read _ _), ?_⟩
    simp [shape, pointerReads, zeroPage, addInPage]
  | indY z =>
    refine ⟨_, (RanWith.read s (zeroPage z)).trans (RanWith.read _ _), ?_⟩
    simp [shape, pointerReads, zeroPage, addInPage]

theorem Stores.resolveState (m : MemOperand) (s : State) : Stores s (Machine.resolveState m s) [] := by
  cases m <;> exact fun _ => rfl

theorem resolveState_region (m : MemOperand) (s : State) (a : Word) :
    (resolveState m s).region a = s.region a := by cases m <;> rfl

/-- The accesses before the last of a read. -/
theorem RanWith.readTail (m : MemOperand) (s : State) :
    ∃ l, RanWith s (Machine.readTail m s) l ∧ shape l = (pointerReads m s).map (fun a => (.read, a)) ++
      (if (resolve m s).crossed then [(.read, (resolve m s).u)] else []) := by
  obtain ⟨l, hl, hs⟩ := RanWith.resolveState m s
  unfold Machine.readTail
  split
  · exact ⟨_, hl.trans (RanWith.read _ _), by simp_all [shape]⟩
  · exact ⟨l, hl, by simp [hs]⟩

theorem Stores.readTail (m : MemOperand) (s : State) : Stores s (Machine.readTail m s) [] := by
  unfold Machine.readTail
  split <;> exact Stores.resolveState m s

/-- The accesses before the last read or write of the write and read-modify-write classes. -/
theorem RanWith.tailDummy (m : MemOperand) (s : State) :
    ∃ l, RanWith s (Machine.tailDummy m s) l ∧ shape l = (pointerReads m s).map (fun a => (.read, a)) ++
      (if (resolve m s).indexed then [(.read, (resolve m s).u)] else []) := by
  obtain ⟨l, hl, hs⟩ := RanWith.resolveState m s
  unfold Machine.tailDummy
  split
  · exact ⟨_, hl.trans (RanWith.read _ _), by simp_all [shape]⟩
  · exact ⟨l, hl, by simp [hs]⟩

theorem Stores.tailDummy (m : MemOperand) (s : State) : Stores s (Machine.tailDummy m s) [] := by
  unfold Machine.tailDummy
  split <;> exact Stores.resolveState m s

theorem tailDummy_region (m : MemOperand) (s : State) (a : Word) : (tailDummy m s).region a = s.region a := by
  unfold tailDummy
  split <;> exact resolveState_region m s a

theorem length_pointerReads (m : MemOperand) (s : State) : (pointerReads m s).length = pointerCount m := by
  cases m <;> rfl

theorem length_shape (l : List BusAccess) : (shape l).length = l.length := by simp [shape]

/-! ## The classes -/

/-- The read class: the registers change by the effect of `M`, nothing is stored, the accesses are the
resolver's, the discarded read of `U` where the index crosses, and the operand read (R143). -/
theorem readClass_spec {m : MemOperand} {f : Byte → State → State} {g : Byte → Regs → Regs}
    (hf : ∀ v, OnRegs (f v) (g v)) (s : State) :
    (readClass m f s).regs = g (loadValue m s) s.regs ∧ Stores s (readClass m f s) [] ∧
    ∃ l, RanWith s (readClass m f s) (l ++ [rd (resolve m s).ea (loadValue m s)]) ∧
      shape l = (pointerReads m s).map readAt ++ (if (resolve m s).crossed then [readAt (resolve m s).u] else []) := by
  obtain ⟨l, hl, hs⟩ := RanWith.readTail m s
  unfold readClass
  rw [hf]
  exact ⟨by rw [withRegs_regs, loadState_regs], Stores.readTail m s, l,
    (hl.trans (RanWith.read _ (resolve m s).ea)).withRegs (g (loadValue m s) (loadState m s).regs), hs⟩

/-- The write class: no register changes, one byte is stored; the accesses are the resolver's, the discarded
read of `U` where the mode is indexed, and that write (R144). -/
theorem writeClass_spec {s : State} (hs : s.StorageOk) (m : MemOperand) (v : Byte) :
    (writeClass m v s).regs = s.regs ∧ Stores s (writeClass m v s) [((resolve m s).ea, v)] ∧
    ∃ l, RanWith s (writeClass m v s) (l ++ [wr (resolve m s).ea v]) ∧
      shape l = (pointerReads m s).map readAt ++ (if (resolve m s).indexed then [readAt (resolve m s).u] else []) := by
  obtain ⟨l, hl, hs'⟩ := RanWith.tailDummy m s
  unfold writeClass
  exact ⟨tailDummy_regs m s, (Stores.tailDummy m s).trans
      (Stores.write (by rw [tailDummy_mem]; exact hs.1) _ _) (tailDummy_region m s), l,
    hl.trans (RanWith.write _ _ _), hs'⟩

/-- The read-modify-write class: the registers change by the effect of `M` and `R`; the accesses are the
resolver's, the discarded read of `U` where the mode is indexed, the operand read, and the writes of `M`, then
`R`, to the effective address (R145). -/
theorem modifyClass_spec {m : MemOperand} {f : Byte → Byte → State → State} {g : Byte → Byte → Regs → Regs}
    {result : Bool → Byte → Byte} (hf : ∀ v r, OnRegs (f v r) (g v r)) {s : State} (hs : s.StorageOk) :
    (modifyClass m result f s).regs = g (modifyValue m s) (result s.p.c (modifyValue m s)) s.regs ∧
    Stores s (modifyClass m result f s)
      [((resolve m s).ea, modifyValue m s), ((resolve m s).ea, result s.p.c (modifyValue m s))] ∧
    ∃ l, RanWith s (modifyClass m result f s) (l ++ [rd (resolve m s).ea (modifyValue m s),
        wr (resolve m s).ea (modifyValue m s), wr (resolve m s).ea (result s.p.c (modifyValue m s))]) ∧
      shape l = (pointerReads m s).map readAt ++ (if (resolve m s).indexed then [readAt (resolve m s).u] else []) := by
  obtain ⟨l, hl, hs'⟩ := RanWith.tailDummy m s
  have hm : Memory.wf (tailDummy m s).mem = true := by rw [tailDummy_mem]; exact hs.1
  have hran := ((hl.trans (RanWith.read _ (resolve m s).ea)).trans
    (RanWith.write _ (resolve m s).ea (modifyValue m s))).trans
    (RanWith.write _ (resolve m s).ea (result s.p.c (modifyValue m s)))
  rw [List.append_assoc, List.append_assoc] at hran
  unfold modifyClass
  dsimp only
  rw [hf]
  refine ⟨by rw [withRegs_regs, modifyState_regs], ?_, l, hran.withRegs (g (modifyValue m s)
    (result s.p.c (modifyValue m s)) (modifyState m (result s.p.c (modifyValue m s)) s).regs), hs'⟩
  show Stores s (modifyState m _ s) _
  refine Stores.trans (l := [_]) ?_ (Stores.write ?_ _ _) (fun a => tailDummy_region m s a)
  · exact (Stores.tailDummy m s).trans ((Stores.read _ (resolve m s).ea).trans
      (Stores.write (s := (tailDummy m s).read (resolve m s).ea) hm _ _) fun _ => rfl)
      (tailDummy_region m s)
  · exact (Keeps.write ((tailDummy m s).read (resolve m s).ea) (resolve m s).ea (modifyValue m s)).1
      ((Keeps.tailDummy m s).1 hs) |>.1

/-- The implied and accumulator modes make one discarded read at PC (R131, R132). -/
theorem impliedClass_spec {f : State → State} {g : Regs → Regs} (hf : OnRegs f g) (s : State) :
    (impliedClass f s).regs = g s.regs ∧ Stores s (impliedClass f s) [] ∧
    RanWith s (impliedClass f s) [rd s.pc (s.peek s.pc)] := by
  unfold impliedClass
  rw [hf]
  exact ⟨rfl, (Stores.read s _).withRegs _, (RanWith.read s _).withRegs _⟩

end Sys2Proof.Machine
end

