-- ==== Sys2Proof/Laws/Exec.lean ====
section
/-! SUPPORT. What any instruction can do, said once: it answers a next state, keeps what no access can undo,
and makes the accesses the opcode table counts. -/

namespace Sys2Proof.Machine

/-- The environment's calls act on `irq_line` whatever the other inputs are (R404, R421). -/
theorem signals_irqLine {l l' : Lines} (h : l.irqLine = l'.irqLine) (calls : List Signal) :
    (l.signals calls).irqLine = (l'.signals calls).irqLine := by
  induction calls generalizing l l' with
  | nil => exact h
  | cons c calls ih => exact ih (by cases c <;> first | exact h | rfl)

/-- `t` is reached from `s` by `n` accesses: storage stays well formed and PRG-ROM as it was, the access list
grows by `n`, the latch holds the last byte, the counts of the last step stay, the window reads use up their
hook answers, and `irq_line` is what the environment's calls make it. The other interrupt inputs are left open,
since an entry also consumes a latched edge. -/
structure Advances (s t : State) (n : Nat) : Prop where
  keeps : Keeps s t
  accesses : ∃ l : List BusAccess, l.length = n ∧ t.trace = s.trace ++ l ∧
    t.busLatch = (l.getLast?.map BusAccess.data).getD s.busLatch ∧ t.cycles = s.cycles ∧
    t.cyclesTotal = s.cyclesTotal ∧
    t.hookReads = s.hookReads.drop (s.windowReads l) ∧ t.hookCount = s.hookCount + s.windowReads l
  ticks : t.ticks = s.ticks.drop n
  irqLine : t.lines.irqLine = (s.lines.signals (s.ticks.take n).flatten).irqLine

namespace Advances

theorem of_ran {s t : State} {n : Nat} (hk : Keeps s t) (h : Ran s t n) : Advances s t n := by
  obtain ⟨l, rfl, h1, h2, h3, h4, -, -, h7, h8, h9, h10⟩ := h
  exact ⟨hk, ⟨l, rfl, h1, h2, h7, h8, h9, h10⟩, h4, by rw [h3]⟩

theorem trans {s t u : State} {n n' : Nat} (h : Advances s t n) (h' : Advances t u n') :
    Advances s u (n + n') := by
  refine ⟨h.keeps.trans h'.keeps, ?_, ?_, ?_⟩
  · obtain ⟨l, h1, h2, h3, h4, h5, h6, h7⟩ := h.accesses
    obtain ⟨l', g1, g2, g3, g4, g5, g6, g7⟩ := h'.accesses
    rw [windowReads_congr h.keeps.2.1 h.keeps.2.2.1] at g6 g7
    refine ⟨l ++ l', by simp [h1, g1], by rw [g2, h2, List.append_assoc], ?_, g4.trans h4, g5.trans h5,
      by rw [g6, h6, List.drop_drop, windowReads_append], by rw [g7, h7, windowReads_append, Nat.add_assoc]⟩
    rw [g3, h3]
    rcases List.eq_nil_or_concat l' with rfl | ⟨l'', e, rfl⟩
    · simp
    · simp [List.getLast?_append]
  · rw [h'.ticks, h.ticks, List.drop_drop]
  · rw [h'.irqLine, h.ticks, signals_irqLine h.irqLine, List.take_add, List.flatten_append]
    simp [Lines.signals, List.foldl_append]

theorem refl (s : State) : Advances s s 0 := of_ran (Keeps.refl s) (Ran.refl s)

/-- An update of registers and of the interrupt inputs other than `irq_line` is no access. -/
theorem quiet {s t u : State} {n : Nat} (h : Advances s t n) (h1 : u.mem = t.mem) (h2 : u.prgRom = t.prgRom)
    (h3 : u.prgRam = t.prgRam) (h4 : u.trace = t.trace) (h5 : u.busLatch = t.busLatch)
    (h6 : u.cycles = t.cycles) (h7 : u.cyclesTotal = t.cyclesTotal) (h8 : u.hookReads = t.hookReads)
    (h9 : u.hookCount = t.hookCount) (h10 : u.ticks = t.ticks) (h11 : u.lines.irqLine = t.lines.irqLine) :
    Advances s u n :=
  h.trans (n' := 0) ⟨⟨fun h => by unfold State.StorageOk; rw [h1, h2, h3]; exact h, h2, h3, fun _ _ => by rw [h1]⟩,
    ⟨[], rfl, by simp [h4], by simp [h5], h6, h7, by simp [h8], by simp [h9]⟩, by simp [h10],
    by simp [h11, Lines.signals]⟩

theorem of_regs {s t : State} (h : t = s.withRegs t.regs) : Advances s t 0 := by
  rw [h]
  exact (refl s).quiet rfl rfl rfl rfl rfl rfl rfl rfl rfl rfl rfl

theorem read {s t : State} {n : Nat} (h : Advances s t n) (addr : Word) : Advances s (t.read addr) (n + 1) :=
  h.trans (of_ran (Keeps.read t addr) (Ran.read t addr))

theorem write {s t : State} {n : Nat} (h : Advances s t n) (addr : Word) (v : Byte) :
    Advances s (t.write addr v) (n + 1) :=
  h.trans (of_ran (Keeps.write t addr v) (Ran.write t addr v))

theorem push {s t : State} {n : Nat} (h : Advances s t n) (v : Byte) : Advances s (t.push v) (n + 1) :=
  h.trans (of_ran (Keeps.push t v) (Ran.push t v))

theorem pull {s t : State} {n : Nat} (h : Advances s t n) : Advances s t.pull (n + 1) :=
  h.trans (of_ran (Keeps.refl t) (Ran.pull t))

theorem fetch {s t : State} {n : Nat} (h : Advances s t n) : Advances s t.fetch (n + 1) :=
  h.trans (of_ran (Keeps.refl t) (Ran.fetch t))

theorem read16 {s t : State} {n : Nat} (h : Advances s t n) (addr : Word) :
    Advances s (t.read16 addr) (n + 2) :=
  (h.read addr).read _

theorem read16Wrap {s t : State} {n : Nat} (h : Advances s t n) (addr : Word) :
    Advances s (t.read16Wrap addr) (n + 2) :=
  (h.read addr).read _

theorem setPc {s t : State} {n : Nat} (h : Advances s t n) (w : Word) : Advances s (t.setPc w) n :=
  h.quiet rfl rfl rfl rfl rfl rfl rfl rfl rfl rfl rfl

theorem setSp {s t : State} {n : Nat} (h : Advances s t n) (v : Byte) : Advances s (t.setSp v) n :=
  h.quiet rfl rfl rfl rfl rfl rfl rfl rfl rfl rfl rfl

theorem setP {s t : State} {n : Nat} (h : Advances s t n) (p : Flags) : Advances s (t.setP p) n :=
  h.quiet rfl rfl rfl rfl rfl rfl rfl rfl rfl rfl rfl

theorem selectVector {s t : State} {n : Nat} (h : Advances s t n) (kind : InterruptKind) :
    Advances s (t.selectVector kind) n := by
  cases kind <;> exact h.quiet rfl rfl rfl rfl rfl rfl rfl rfl rfl rfl rfl

theorem resetRegisters {s t : State} {n : Nat} (h : Advances s t n) : Advances s t.resetRegisters n :=
  h.quiet rfl rfl rfl rfl rfl rfl rfl rfl rfl rfl rfl

theorem jumpVector {s t : State} {n : Nat} (h : Advances s t n) (vec : Word) :
    Advances s (t.jumpVector vec) (n + 2) :=
  (h.read16 vec).setPc _

/-! ## Sequences -/

/-- The entry sequence after its first two cycles makes five accesses (R407). -/
theorem entry {s t : State} {n : Nat} (h : Advances s t n) (kind : InterruptKind) (a b c : Byte) (p : Flags)
    (vec : Word) :
    Advances s ((((((t.push a).push b).selectVector kind).push c).setP p).jumpVector vec) (n + 5) :=
  (((((h.push a).push b).selectVector kind).push c).setP p).jumpVector vec

/-- An NMI or IRQ entry makes seven accesses; BRK makes five after its two fetches (R407). -/
theorem of_interruptSequence (s : State) (kind : InterruptKind) :
    Advances s (s.interruptSequence kind) (if kind = .brk then 5 else 7) := by
  cases kind
  · exact entry (((refl s).quiet rfl rfl rfl rfl rfl rfl rfl rfl rfl rfl rfl : Advances s s.consumeNmi 0).read s.pc |>.read s.pc)
      .nmi _ _ _ _ _
  · exact entry (((refl s).read s.pc).read s.pc) .irq _ _ _ _ _
  · exact entry (refl s) .brk _ _ _ _ _

/-- The reset sequence makes seven reads (R450). -/
theorem of_resetSequence (s : State) : Advances s s.resetSequence 7 :=
  ((((((refl s).read _).read _).read _).read _).read _).resetRegisters.jumpVector _

theorem of_resolveState (m : MemOperand) (s : State) : Advances s (Machine.resolveState m s) (pointerCount m) := by
  cases m with
  | zp | abs | absX | absY => exact refl s
  | zpX | zpY => exact (refl s).read _
  | indX => exact ((refl s).read _).read16Wrap _
  | indY => exact (refl s).read16Wrap _

theorem of_tailDummy (m : MemOperand) (s : State) :
    Advances s (Machine.tailDummy m s) (pointerCount m + if (resolve m s).indexed then 1 else 0) := by
  unfold Machine.tailDummy
  split
  · exact (of_resolveState m s).read _
  · exact of_resolveState m s

theorem of_readClass {m : MemOperand} {f : Byte → State → State} (hf : ∀ v t, Advances t (f v t) 0) (s : State) :
    Advances s (Machine.readClass m f s) (pointerCount m + (if (resolve m s).crossed then 1 else 0) + 1) := by
  unfold Machine.readClass loadState readTail
  refine trans (n' := 0) (read ?_ _) (hf _ _)
  split
  · exact (of_resolveState m s).read _
  · exact of_resolveState m s

theorem of_writeClass (m : MemOperand) (v : Byte) (s : State) :
    Advances s (Machine.writeClass m v s) (pointerCount m + (if (resolve m s).indexed then 1 else 0) + 1) :=
  (of_tailDummy m s).write _ _

theorem of_unstableStore (m : MemOperand) (v : Byte) (s : State) :
    Advances s (Machine.unstableStore m v s) (pointerCount m + (if (resolve m s).indexed then 1 else 0) + 1) :=
  (of_tailDummy m s).write _ _

theorem of_modifyClass {m : MemOperand} {result : Bool → Byte → Byte} {f : Byte → Byte → State → State}
    (hf : ∀ v r t, Advances t (f v r t) 0) (s : State) :
    Advances s (Machine.modifyClass m result f s)
      (pointerCount m + (if (resolve m s).indexed then 1 else 0) + 3) :=
  trans (n' := 0) ((((of_tailDummy m s).read _).write _ _).write _ _) (hf _ _ _)

theorem of_impliedClass {f : State → State} (hf : ∀ t, Advances t (f t) 0) (s : State) :
    Advances s (Machine.impliedClass f s) 1 :=
  trans (n' := 0) ((refl s).read s.pc) (hf _)

theorem of_branch (s : State) (cond : Bool) (off : Byte) :
    Advances s (s.branch cond off) (if cond then 1 + (if hi (s.pc + sext off) ≠ hi s.pc then 1 else 0) else 0) := by
  unfold State.branch pagesDiffer
  dsimp only
  split
  · refine setPc ?_ _
    by_cases h : hi (s.pc + sext off) ≠ hi s.pc
    · rw [if_pos (decide_eq_true h), if_pos h]
      exact ((refl s).read _).read _
    · rw [if_neg (by simpa using h), if_neg h]
      exact (refl s).read _
  · exact refl s

theorem of_rts (s : State) : Advances s (Machine.impliedClass State.rts s) 5 :=
  ((((((refl s).read _).read _).pull).pull).setPc _ |>.read _).setPc _

theorem of_rti (s : State) : Advances s s.returnFromInterrupt 5 :=
  ((((((refl s).read _).read _).pull).setP _).pull).pull.setPc _

theorem of_jsr (s : State) (l : Byte) : Advances s (s.jsr l) 4 :=
  ((((refl s).read _).push _).push _).read _ |>.setPc _

theorem of_brk (s : State) : Advances s s.brk 6 := (refl s).fetch.trans (of_interruptSequence s.fetch .brk)

theorem of_pha (s : State) : Advances s (Machine.impliedClass State.pha s) 2 := ((refl s).read _).push _

theorem of_php (s : State) : Advances s (Machine.impliedClass State.php s) 2 := ((refl s).read _).push _

theorem of_pla (s : State) : Advances s (Machine.impliedClass State.pla s) 3 :=
  (((refl s).read _).read _).pull.trans (n' := 0) (of_regs rfl)

theorem of_plp (s : State) : Advances s (Machine.impliedClass State.plp s) 3 :=
  ((((refl s).read _).read _).pull).setP _

theorem of_jumpIndirect (s : State) (ptr : Word) : Advances s (s.jumpIndirect ptr) 2 :=
  ((refl s).read16Wrap ptr).setPc _

/-! ## Instructions -/

/-- A read with the page-crossing penalty makes the accesses the table counts. -/
theorem readCycles {i : Instr} {m : MemOperand} {s : State} (ho : i.operand = .mem m)
    (hc : ∀ c : Bool, i.row.baseCycles + (if i.row.pageCrossPenalty && c then 1 else 0) - (encode i).length =
      pointerCount m + (if c then 1 else 0) + 1) :
    pointerCount m + (if (resolve m s).crossed then 1 else 0) + 1 = accessesLeft i s := by
  rw [← hc, accessesLeft, penalty, ho]

/-- One instruction, from its meaning. -/
theorem answer {i : Instr} {s t : State} {n : Nat} (he : exec i s = .next t) (h : Advances s t n)
    (hn : n = accessesLeft i s) : ∃ t, exec i s = .next t ∧ Advances s t (accessesLeft i s) :=
  ⟨t, he, hn ▸ h⟩

end Advances

open Advances in
/-- Every instruction answers a next state, and makes as many accesses as the opcode table leaves it after
its bytes are fetched (R147, R401). -/
theorem exec_advances : ∀ (i : Instr) (s : State), ∃ t, exec i s = .next t ∧ Advances s t (accessesLeft i s)
  | .brk, _ => answer rfl (of_brk _) rfl
  | .oraIndX _, _ => answer rfl (of_readClass (fun _ _ => of_regs rfl) _) rfl
  | .jam02, _ => answer rfl (of_impliedClass (fun _ => of_regs rfl) _) rfl
  | .sloIndX _, _ => answer rfl (of_modifyClass (fun _ _ _ => of_regs rfl) _) rfl
  | .nopZp04 _, _ => answer rfl (of_readClass (fun _ _ => of_regs rfl) _) rfl
  | .oraZp _, _ => answer rfl (of_readClass (fun _ _ => of_regs rfl) _) rfl
  | .aslZp _, _ => answer rfl (of_modifyClass (fun _ _ _ => of_regs rfl) _) rfl
  | .sloZp _, _ => answer rfl (of_modifyClass (fun _ _ _ => of_regs rfl) _) rfl
  | .php, _ => answer rfl (of_php _) rfl
  | .oraImm _, _ => answer rfl (of_regs rfl) rfl
  | .aslA, _ => answer rfl (of_impliedClass (fun _ => of_regs rfl) _) rfl
  | .ancImm0B _, _ => answer rfl (of_regs rfl) rfl
  | .nopAbs0C _, _ => answer rfl (of_readClass (fun _ _ => of_regs rfl) _) rfl
  | .oraAbs _, _ => answer rfl (of_readClass (fun _ _ => of_regs rfl) _) rfl
  | .aslAbs _, _ => answer rfl (of_modifyClass (fun _ _ _ => of_regs rfl) _) rfl
  | .sloAbs _, _ => answer rfl (of_modifyClass (fun _ _ _ => of_regs rfl) _) rfl
  | .bpl _, _ => answer rfl (of_branch _ _ _) (Nat.add_sub_cancel_left 2 _).symm
  | .oraIndY _, _ => answer rfl (of_readClass (fun _ _ => of_regs rfl) _) (readCycles rfl fun c => by cases c <;> rfl)
  | .jam12, _ => answer rfl (of_impliedClass (fun _ => of_regs rfl) _) rfl
  | .sloIndY _, _ => answer rfl (of_modifyClass (fun _ _ _ => of_regs rfl) _) rfl
  | .nopZpX14 _, _ => answer rfl (of_readClass (fun _ _ => of_regs rfl) _) rfl
  | .oraZpX _, _ => answer rfl (of_readClass (fun _ _ => of_regs rfl) _) rfl
  | .aslZpX _, _ => answer rfl (of_modifyClass (fun _ _ _ => of_regs rfl) _) rfl
  | .sloZpX _, _ => answer rfl (of_modifyClass (fun _ _ _ => of_regs rfl) _) rfl
  | .clc, _ => answer rfl (of_impliedClass (fun _ => of_regs rfl) _) rfl
  | .oraAbsY _, _ => answer rfl (of_readClass (fun _ _ => of_regs rfl) _) (readCycles rfl fun c => by cases c <;> rfl)
  | .nop1A, _ => answer rfl (of_impliedClass (fun _ => of_regs rfl) _) rfl
  | .sloAbsY _, _ => answer rfl (of_modifyClass (fun _ _ _ => of_regs rfl) _) rfl
  | .nopAbsX1C _, _ => answer rfl (of_readClass (fun _ _ => of_regs rfl) _) (readCycles rfl fun c => by cases c <;> rfl)
  | .oraAbsX _, _ => answer rfl (of_readClass (fun _ _ => of_regs rfl) _) (readCycles rfl fun c => by cases c <;> rfl)
  | .aslAbsX _, _ => answer rfl (of_modifyClass (fun _ _ _ => of_regs rfl) _) rfl
  | .sloAbsX _, _ => answer rfl (of_modifyClass (fun _ _ _ => of_regs rfl) _) rfl
  | .jsr _, _ => answer rfl (of_jsr _ _) rfl
  | .andIndX _, _ => answer rfl (of_readClass (fun _ _ => of_regs rfl) _) rfl
  | .jam22, _ => answer rfl (of_impliedClass (fun _ => of_regs rfl) _) rfl
  | .rlaIndX _, _ => answer rfl (of_modifyClass (fun _ _ _ => of_regs rfl) _) rfl
  | .bitZp _, _ => answer rfl (of_readClass (fun _ _ => of_regs rfl) _) rfl
  | .andZp _, _ => answer rfl (of_readClass (fun _ _ => of_regs rfl) _) rfl
  | .rolZp _, _ => answer rfl (of_modifyClass (fun _ _ _ => of_regs rfl) _) rfl
  | .rlaZp _, _ => answer rfl (of_modifyClass (fun _ _ _ => of_regs rfl) _) rfl
  | .plp, _ => answer rfl (of_plp _) rfl
  | .andImm _, _ => answer rfl (of_regs rfl) rfl
  | .rolA, _ => answer rfl (of_impliedClass (fun _ => of_regs rfl) _) rfl
  | .ancImm2B _, _ => answer rfl (of_regs rfl) rfl
  | .bitAbs _, _ => answer rfl (of_readClass (fun _ _ => of_regs rfl) _) rfl
  | .andAbs _, _ => answer rfl (of_readClass (fun _ _ => of_regs rfl) _) rfl
  | .rolAbs _, _ => answer rfl (of_modifyClass (fun _ _ _ => of_regs rfl) _) rfl
  | .rlaAbs _, _ => answer rfl (of_modifyClass (fun _ _ _ => of_regs rfl) _) rfl
  | .bmi _, _ => answer rfl (of_branch _ _ _) (Nat.add_sub_cancel_left 2 _).symm
  | .andIndY _, _ => answer rfl (of_readClass (fun _ _ => of_regs rfl) _) (readCycles rfl fun c => by cases c <;> rfl)
  | .jam32, _ => answer rfl (of_impliedClass (fun _ => of_regs rfl) _) rfl
  | .rlaIndY _, _ => answer rfl (of_modifyClass (fun _ _ _ => of_regs rfl) _) rfl
  | .nopZpX34 _, _ => answer rfl (of_readClass (fun _ _ => of_regs rfl) _) rfl
  | .andZpX _, _ => answer rfl (of_readClass (fun _ _ => of_regs rfl) _) rfl
  | .rolZpX _, _ => answer rfl (of_modifyClass (fun _ _ _ => of_regs rfl) _) rfl
  | .rlaZpX _, _ => answer rfl (of_modifyClass (fun _ _ _ => of_regs rfl) _) rfl
  | .sec, _ => answer rfl (of_impliedClass (fun _ => of_regs rfl) _) rfl
  | .andAbsY _, _ => answer rfl (of_readClass (fun _ _ => of_regs rfl) _) (readCycles rfl fun c => by cases c <;> rfl)
  | .nop3A, _ => answer rfl (of_impliedClass (fun _ => of_regs rfl) _) rfl
  | .rlaAbsY _, _ => answer rfl (of_modifyClass (fun _ _ _ => of_regs rfl) _) rfl
  | .nopAbsX3C _, _ => answer rfl (of_readClass (fun _ _ => of_regs rfl) _) (readCycles rfl fun c => by cases c <;> rfl)
  | .andAbsX _, _ => answer rfl (of_readClass (fun _ _ => of_regs rfl) _) (readCycles rfl fun c => by cases c <;> rfl)
  | .rolAbsX _, _ => answer rfl (of_modifyClass (fun _ _ _ => of_regs rfl) _) rfl
  | .rlaAbsX _, _ => answer rfl (of_modifyClass (fun _ _ _ => of_regs rfl) _) rfl
  | .rti, _ => answer rfl (of_rti _) rfl
  | .eorIndX _, _ => answer rfl (of_readClass (fun _ _ => of_regs rfl) _) rfl
  | .jam42, _ => answer rfl (of_impliedClass (fun _ => of_regs rfl) _) rfl
  | .sreIndX _, _ => answer rfl (of_modifyClass (fun _ _ _ => of_regs rfl) _) rfl
  | .nopZp44 _, _ => answer rfl (of_readClass (fun _ _ => of_regs rfl) _) rfl
  | .eorZp _, _ => answer rfl (of_readClass (fun _ _ => of_regs rfl) _) rfl
  | .lsrZp _, _ => answer rfl (of_modifyClass (fun _ _ _ => of_regs rfl) _) rfl
  | .sreZp _, _ => answer rfl (of_modifyClass (fun _ _ _ => of_regs rfl) _) rfl
  | .pha, _ => answer rfl (of_pha _) rfl
  | .eorImm _, _ => answer rfl (of_regs rfl) rfl
  | .lsrA, _ => answer rfl (of_impliedClass (fun _ => of_regs rfl) _) rfl
  | .alrImm _, _ => answer rfl (of_regs rfl) rfl
  | .jmpAbs _, _ => answer rfl ((refl _).setPc _) rfl
  | .eorAbs _, _ => answer rfl (of_readClass (fun _ _ => of_regs rfl) _) rfl
  | .lsrAbs _, _ => answer rfl (of_modifyClass (fun _ _ _ => of_regs rfl) _) rfl
  | .sreAbs _, _ => answer rfl (of_modifyClass (fun _ _ _ => of_regs rfl) _) rfl
  | .bvc _, _ => answer rfl (of_branch _ _ _) (Nat.add_sub_cancel_left 2 _).symm
  | .eorIndY _, _ => answer rfl (of_readClass (fun _ _ => of_regs rfl) _) (readCycles rfl fun c => by cases c <;> rfl)
  | .jam52, _ => answer rfl (of_impliedClass (fun _ => of_regs rfl) _) rfl
  | .sreIndY _, _ => answer rfl (of_modifyClass (fun _ _ _ => of_regs rfl) _) rfl
  | .nopZpX54 _, _ => answer rfl (of_readClass (fun _ _ => of_regs rfl) _) rfl
  | .eorZpX _, _ => answer rfl (of_readClass (fun _ _ => of_regs rfl) _) rfl
  | .lsrZpX _, _ => answer rfl (of_modifyClass (fun _ _ _ => of_regs rfl) _) rfl
  | .sreZpX _, _ => answer rfl (of_modifyClass (fun _ _ _ => of_regs rfl) _) rfl
  | .cli, _ => answer rfl (of_impliedClass (fun _ => of_regs rfl) _) rfl
  | .eorAbsY _, _ => answer rfl (of_readClass (fun _ _ => of_regs rfl) _) (readCycles rfl fun c => by cases c <;> rfl)
  | .nop5A, _ => answer rfl (of_impliedClass (fun _ => of_regs rfl) _) rfl
  | .sreAbsY _, _ => answer rfl (of_modifyClass (fun _ _ _ => of_regs rfl) _) rfl
  | .nopAbsX5C _, _ => answer rfl (of_readClass (fun _ _ => of_regs rfl) _) (readCycles rfl fun c => by cases c <;> rfl)
  | .eorAbsX _, _ => answer rfl (of_readClass (fun _ _ => of_regs rfl) _) (readCycles rfl fun c => by cases c <;> rfl)
  | .lsrAbsX _, _ => answer rfl (of_modifyClass (fun _ _ _ => of_regs rfl) _) rfl
  | .sreAbsX _, _ => answer rfl (of_modifyClass (fun _ _ _ => of_regs rfl) _) rfl
  | .rts, _ => answer rfl (of_rts _) rfl
  | .adcIndX _, _ => answer rfl (of_readClass (fun _ _ => of_regs rfl) _) rfl
  | .jam62, _ => answer rfl (of_impliedClass (fun _ => of_regs rfl) _) rfl
  | .rraIndX _, _ => answer rfl (of_modifyClass (fun _ _ _ => of_regs rfl) _) rfl
  | .nopZp64 _, _ => answer rfl (of_readClass (fun _ _ => of_regs rfl) _) rfl
  | .adcZp _, _ => answer rfl (of_readClass (fun _ _ => of_regs rfl) _) rfl
  | .rorZp _, _ => answer rfl (of_modifyClass (fun _ _ _ => of_regs rfl) _) rfl
  | .rraZp _, _ => answer rfl (of_modifyClass (fun _ _ _ => of_regs rfl) _) rfl
  | .pla, _ => answer rfl (of_pla _) rfl
  | .adcImm _, _ => answer rfl (of_regs rfl) rfl
  | .rorA, _ => answer rfl (of_impliedClass (fun _ => of_regs rfl) _) rfl
  | .arrImm _, _ => answer rfl (of_regs rfl) rfl
  | .jmpInd _, _ => answer rfl (of_jumpIndirect _ _) rfl
  | .adcAbs _, _ => answer rfl (of_readClass (fun _ _ => of_regs rfl) _) rfl
  | .rorAbs _, _ => answer rfl (of_modifyClass (fun _ _ _ => of_regs rfl) _) rfl
  | .rraAbs _, _ => answer rfl (of_modifyClass (fun _ _ _ => of_regs rfl) _) rfl
  | .bvs _, _ => answer rfl (of_branch _ _ _) (Nat.add_sub_cancel_left 2 _).symm
  | .adcIndY _, _ => answer rfl (of_readClass (fun _ _ => of_regs rfl) _) (readCycles rfl fun c => by cases c <;> rfl)
  | .jam72, _ => answer rfl (of_impliedClass (fun _ => of_regs rfl) _) rfl
  | .rraIndY _, _ => answer rfl (of_modifyClass (fun _ _ _ => of_regs rfl) _) rfl
  | .nopZpX74 _, _ => answer rfl (of_readClass (fun _ _ => of_regs rfl) _) rfl
  | .adcZpX _, _ => answer rfl (of_readClass (fun _ _ => of_regs rfl) _) rfl
  | .rorZpX _, _ => answer rfl (of_modifyClass (fun _ _ _ => of_regs rfl) _) rfl
  | .rraZpX _, _ => answer rfl (of_modifyClass (fun _ _ _ => of_regs rfl) _) rfl
  | .sei, _ => answer rfl (of_impliedClass (fun _ => of_regs rfl) _) rfl
  | .adcAbsY _, _ => answer rfl (of_readClass (fun _ _ => of_regs rfl) _) (readCycles rfl fun c => by cases c <;> rfl)
  | .nop7A, _ => answer rfl (of_impliedClass (fun _ => of_regs rfl) _) rfl
  | .rraAbsY _, _ => answer rfl (of_modifyClass (fun _ _ _ => of_regs rfl) _) rfl
  | .nopAbsX7C _, _ => answer rfl (of_readClass (fun _ _ => of_regs rfl) _) (readCycles rfl fun c => by cases c <;> rfl)
  | .adcAbsX _, _ => answer rfl (of_readClass (fun _ _ => of_regs rfl) _) (readCycles rfl fun c => by cases c <;> rfl)
  | .rorAbsX _, _ => answer rfl (of_modifyClass (fun _ _ _ => of_regs rfl) _) rfl
  | .rraAbsX _, _ => answer rfl (of_modifyClass (fun _ _ _ => of_regs rfl) _) rfl
  | .nopImm80 _, _ => answer rfl (of_regs rfl) rfl
  | .staIndX _, _ => answer rfl (of_writeClass _ _ _) rfl
  | .nopImm82 _, _ => answer rfl (of_regs rfl) rfl
  | .saxIndX _, _ => answer rfl (of_writeClass _ _ _) rfl
  | .styZp _, _ => answer rfl (of_writeClass _ _ _) rfl
  | .staZp _, _ => answer rfl (of_writeClass _ _ _) rfl
  | .stxZp _, _ => answer rfl (of_writeClass _ _ _) rfl
  | .saxZp _, _ => answer rfl (of_writeClass _ _ _) rfl
  | .dey, _ => answer rfl (of_impliedClass (fun _ => of_regs rfl) _) rfl
  | .nopImm89 _, _ => answer rfl (of_regs rfl) rfl
  | .txa, _ => answer rfl (of_impliedClass (fun _ => of_regs rfl) _) rfl
  | .aneImm _, _ => answer rfl (of_regs rfl) rfl
  | .styAbs _, _ => answer rfl (of_writeClass _ _ _) rfl
  | .staAbs _, _ => answer rfl (of_writeClass _ _ _) rfl
  | .stxAbs _, _ => answer rfl (of_writeClass _ _ _) rfl
  | .saxAbs _, _ => answer rfl (of_writeClass _ _ _) rfl
  | .bcc _, _ => answer rfl (of_branch _ _ _) (Nat.add_sub_cancel_left 2 _).symm
  | .staIndY _, _ => answer rfl (of_writeClass _ _ _) rfl
  | .jam92, _ => answer rfl (of_impliedClass (fun _ => of_regs rfl) _) rfl
  | .shaIndY _, _ => answer rfl (of_unstableStore _ _ _) rfl
  | .styZpX _, _ => answer rfl (of_writeClass _ _ _) rfl
  | .staZpX _, _ => answer rfl (of_writeClass _ _ _) rfl
  | .stxZpY _, _ => answer rfl (of_writeClass _ _ _) rfl
  | .saxZpY _, _ => answer rfl (of_writeClass _ _ _) rfl
  | .tya, _ => answer rfl (of_impliedClass (fun _ => of_regs rfl) _) rfl
  | .staAbsY _, _ => answer rfl (of_writeClass _ _ _) rfl
  | .txs, _ => answer rfl (of_impliedClass (fun _ => of_regs rfl) _) rfl
  | .tasAbsY _, _ => answer rfl (((refl _).setSp _).trans (of_unstableStore _ _ _)) (Nat.zero_add _)
  | .shyAbsX _, _ => answer rfl (of_unstableStore _ _ _) rfl
  | .staAbsX _, _ => answer rfl (of_writeClass _ _ _) rfl
  | .shxAbsY _, _ => answer rfl (of_unstableStore _ _ _) rfl
  | .shaAbsY _, _ => answer rfl (of_unstableStore _ _ _) rfl
  | .ldyImm _, _ => answer rfl (of_regs rfl) rfl
  | .ldaIndX _, _ => answer rfl (of_readClass (fun _ _ => of_regs rfl) _) rfl
  | .ldxImm _, _ => answer rfl (of_regs rfl) rfl
  | .laxIndX _, _ => answer rfl (of_readClass (fun _ _ => of_regs rfl) _) rfl
  | .ldyZp _, _ => answer rfl (of_readClass (fun _ _ => of_regs rfl) _) rfl
  | .ldaZp _, _ => answer rfl (of_readClass (fun _ _ => of_regs rfl) _) rfl
  | .ldxZp _, _ => answer rfl (of_readClass (fun _ _ => of_regs rfl) _) rfl
  | .laxZp _, _ => answer rfl (of_readClass (fun _ _ => of_regs rfl) _) rfl
  | .tay, _ => answer rfl (of_impliedClass (fun _ => of_regs rfl) _) rfl
  | .ldaImm _, _ => answer rfl (of_regs rfl) rfl
  | .tax, _ => answer rfl (of_impliedClass (fun _ => of_regs rfl) _) rfl
  | .lxaImm _, _ => answer rfl (of_regs rfl) rfl
  | .ldyAbs _, _ => answer rfl (of_readClass (fun _ _ => of_regs rfl) _) rfl
  | .ldaAbs _, _ => answer rfl (of_readClass (fun _ _ => of_regs rfl) _) rfl
  | .ldxAbs _, _ => answer rfl (of_readClass (fun _ _ => of_regs rfl) _) rfl
  | .laxAbs _, _ => answer rfl (of_readClass (fun _ _ => of_regs rfl) _) rfl
  | .bcs _, _ => answer rfl (of_branch _ _ _) (Nat.add_sub_cancel_left 2 _).symm
  | .ldaIndY _, _ => answer rfl (of_readClass (fun _ _ => of_regs rfl) _) (readCycles rfl fun c => by cases c <;> rfl)
  | .jamB2, _ => answer rfl (of_impliedClass (fun _ => of_regs rfl) _) rfl
  | .laxIndY _, _ => answer rfl (of_readClass (fun _ _ => of_regs rfl) _) (readCycles rfl fun c => by cases c <;> rfl)
  | .ldyZpX _, _ => answer rfl (of_readClass (fun _ _ => of_regs rfl) _) rfl
  | .ldaZpX _, _ => answer rfl (of_readClass (fun _ _ => of_regs rfl) _) rfl
  | .ldxZpY _, _ => answer rfl (of_readClass (fun _ _ => of_regs rfl) _) rfl
  | .laxZpY _, _ => answer rfl (of_readClass (fun _ _ => of_regs rfl) _) rfl
  | .clv, _ => answer rfl (of_impliedClass (fun _ => of_regs rfl) _) rfl
  | .ldaAbsY _, _ => answer rfl (of_readClass (fun _ _ => of_regs rfl) _) (readCycles rfl fun c => by cases c <;> rfl)
  | .tsx, _ => answer rfl (of_impliedClass (fun _ => of_regs rfl) _) rfl
  | .lasAbsY _, _ => answer rfl (of_readClass (fun _ _ => of_regs rfl) _) (readCycles rfl fun c => by cases c <;> rfl)
  | .ldyAbsX _, _ => answer rfl (of_readClass (fun _ _ => of_regs rfl) _) (readCycles rfl fun c => by cases c <;> rfl)
  | .ldaAbsX _, _ => answer rfl (of_readClass (fun _ _ => of_regs rfl) _) (readCycles rfl fun c => by cases c <;> rfl)
  | .ldxAbsY _, _ => answer rfl (of_readClass (fun _ _ => of_regs rfl) _) (readCycles rfl fun c => by cases c <;> rfl)
  | .laxAbsY _, _ => answer rfl (of_readClass (fun _ _ => of_regs rfl) _) (readCycles rfl fun c => by cases c <;> rfl)
  | .cpyImm _, _ => answer rfl (of_regs rfl) rfl
  | .cmpIndX _, _ => answer rfl (of_readClass (fun _ _ => of_regs rfl) _) rfl
  | .nopImmC2 _, _ => answer rfl (of_regs rfl) rfl
  | .dcpIndX _, _ => answer rfl (of_modifyClass (fun _ _ _ => of_regs rfl) _) rfl
  | .cpyZp _, _ => answer rfl (of_readClass (fun _ _ => of_regs rfl) _) rfl
  | .cmpZp _, _ => answer rfl (of_readClass (fun _ _ => of_regs rfl) _) rfl
  | .decZp _, _ => answer rfl (of_modifyClass (fun _ _ _ => of_regs rfl) _) rfl
  | .dcpZp _, _ => answer rfl (of_modifyClass (fun _ _ _ => of_regs rfl) _) rfl
  | .iny, _ => answer rfl (of_impliedClass (fun _ => of_regs rfl) _) rfl
  | .cmpImm _, _ => answer rfl (of_regs rfl) rfl
  | .dex, _ => answer rfl (of_impliedClass (fun _ => of_regs rfl) _) rfl
  | .sbxImm _, _ => answer rfl (of_regs rfl) rfl
  | .cpyAbs _, _ => answer rfl (of_readClass (fun _ _ => of_regs rfl) _) rfl
  | .cmpAbs _, _ => answer rfl (of_readClass (fun _ _ => of_regs rfl) _) rfl
  | .decAbs _, _ => answer rfl (of_modifyClass (fun _ _ _ => of_regs rfl) _) rfl
  | .dcpAbs _, _ => answer rfl (of_modifyClass (fun _ _ _ => of_regs rfl) _) rfl
  | .bne _, _ => answer rfl (of_branch _ _ _) (Nat.add_sub_cancel_left 2 _).symm
  | .cmpIndY _, _ => answer rfl (of_readClass (fun _ _ => of_regs rfl) _) (readCycles rfl fun c => by cases c <;> rfl)
  | .jamD2, _ => answer rfl (of_impliedClass (fun _ => of_regs rfl) _) rfl
  | .dcpIndY _, _ => answer rfl (of_modifyClass (fun _ _ _ => of_regs rfl) _) rfl
  | .nopZpXD4 _, _ => answer rfl (of_readClass (fun _ _ => of_regs rfl) _) rfl
  | .cmpZpX _, _ => answer rfl (of_readClass (fun _ _ => of_regs rfl) _) rfl
  | .decZpX _, _ => answer rfl (of_modifyClass (fun _ _ _ => of_regs rfl) _) rfl
  | .dcpZpX _, _ => answer rfl (of_modifyClass (fun _ _ _ => of_regs rfl) _) rfl
  | .cld, _ => answer rfl (of_impliedClass (fun _ => of_regs rfl) _) rfl
  | .cmpAbsY _, _ => answer rfl (of_readClass (fun _ _ => of_regs rfl) _) (readCycles rfl fun c => by cases c <;> rfl)
  | .nopDA, _ => answer rfl (of_impliedClass (fun _ => of_regs rfl) _) rfl
  | .dcpAbsY _, _ => answer rfl (of_modifyClass (fun _ _ _ => of_regs rfl) _) rfl
  | .nopAbsXDC _, _ => answer rfl (of_readClass (fun _ _ => of_regs rfl) _) (readCycles rfl fun c => by cases c <;> rfl)
  | .cmpAbsX _, _ => answer rfl (of_readClass (fun _ _ => of_regs rfl) _) (readCycles rfl fun c => by cases c <;> rfl)
  | .decAbsX _, _ => answer rfl (of_modifyClass (fun _ _ _ => of_regs rfl) _) rfl
  | .dcpAbsX _, _ => answer rfl (of_modifyClass (fun _ _ _ => of_regs rfl) _) rfl
  | .cpxImm _, _ => answer rfl (of_regs rfl) rfl
  | .sbcIndX _, _ => answer rfl (of_readClass (fun _ _ => of_regs rfl) _) rfl
  | .nopImmE2 _, _ => answer rfl (of_regs rfl) rfl
  | .iscIndX _, _ => answer rfl (of_modifyClass (fun _ _ _ => of_regs rfl) _) rfl
  | .cpxZp _, _ => answer rfl (of_readClass (fun _ _ => of_regs rfl) _) rfl
  | .sbcZp _, _ => answer rfl (of_readClass (fun _ _ => of_regs rfl) _) rfl
  | .incZp _, _ => answer rfl (of_modifyClass (fun _ _ _ => of_regs rfl) _) rfl
  | .iscZp _, _ => answer rfl (of_modifyClass (fun _ _ _ => of_regs rfl) _) rfl
  | .inx, _ => answer rfl (of_impliedClass (fun _ => of_regs rfl) _) rfl
  | .sbcImm _, _ => answer rfl (of_regs rfl) rfl
  | .nop, _ => answer rfl (of_impliedClass (fun _ => of_regs rfl) _) rfl
  | .usbcImm _, _ => answer rfl (of_regs rfl) rfl
  | .cpxAbs _, _ => answer rfl (of_readClass (fun _ _ => of_regs rfl) _) rfl
  | .sbcAbs _, _ => answer rfl (of_readClass (fun _ _ => of_regs rfl) _) rfl
  | .incAbs _, _ => answer rfl (of_modifyClass (fun _ _ _ => of_regs rfl) _) rfl
  | .iscAbs _, _ => answer rfl (of_modifyClass (fun _ _ _ => of_regs rfl) _) rfl
  | .beq _, _ => answer rfl (of_branch _ _ _) (Nat.add_sub_cancel_left 2 _).symm
  | .sbcIndY _, _ => answer rfl (of_readClass (fun _ _ => of_regs rfl) _) (readCycles rfl fun c => by cases c <;> rfl)
  | .jamF2, _ => answer rfl (of_impliedClass (fun _ => of_regs rfl) _) rfl
  | .iscIndY _, _ => answer rfl (of_modifyClass (fun _ _ _ => of_regs rfl) _) rfl
  | .nopZpXF4 _, _ => answer rfl (of_readClass (fun _ _ => of_regs rfl) _) rfl
  | .sbcZpX _, _ => answer rfl (of_readClass (fun _ _ => of_regs rfl) _) rfl
  | .incZpX _, _ => answer rfl (of_modifyClass (fun _ _ _ => of_regs rfl) _) rfl
  | .iscZpX _, _ => answer rfl (of_modifyClass (fun _ _ _ => of_regs rfl) _) rfl
  | .sed, _ => answer rfl (of_impliedClass (fun _ => of_regs rfl) _) rfl
  | .sbcAbsY _, _ => answer rfl (of_readClass (fun _ _ => of_regs rfl) _) (readCycles rfl fun c => by cases c <;> rfl)
  | .nopFA, _ => answer rfl (of_impliedClass (fun _ => of_regs rfl) _) rfl
  | .iscAbsY _, _ => answer rfl (of_modifyClass (fun _ _ _ => of_regs rfl) _) rfl
  | .nopAbsXFC _, _ => answer rfl (of_readClass (fun _ _ => of_regs rfl) _) (readCycles rfl fun c => by cases c <;> rfl)
  | .sbcAbsX _, _ => answer rfl (of_readClass (fun _ _ => of_regs rfl) _) (readCycles rfl fun c => by cases c <;> rfl)
  | .incAbsX _, _ => answer rfl (of_modifyClass (fun _ _ _ => of_regs rfl) _) rfl
  | .iscAbsX _, _ => answer rfl (of_modifyClass (fun _ _ _ => of_regs rfl) _) rfl

/-! ## Steps -/

theorem Advances.of_fetchBytes : ∀ (n : Nat) {r s : State} {k : Nat}, Advances r s k →
    Advances r (State.fetchBytes n s) (k + n)
  | 0, _, _, _, h => h
  | n + 1, r, s, k, h => by
    rw [show k + (n + 1) = k + 1 + n by omega]
    exact of_fetchBytes n h.fetch

/-- Fetching an instruction makes one access a byte (R100, R401). -/
theorem Advances.of_fetchInstr (s : State) : Advances s s.fetchInstr (1 + operandCount s.peekFetch) :=
  (Nat.zero_add 1) ▸ Advances.of_fetchBytes _ (Advances.refl s).fetch

theorem fetchBytes_mem : ∀ (n : Nat) (s : State), (State.fetchBytes n s).mem = s.mem
  | 0, _ => rfl
  | n + 1, s => fetchBytes_mem n s.fetch

/-- The fetches of an instruction write nothing, and they come before its meaning runs: what was fetched is
what memory held when the step began (R83, R454). -/
@[simp] theorem fetchInstr_mem (s : State) : s.fetchInstr.mem = s.mem := fetchBytes_mem _ s.fetch

/-- A step that is no halted cycle runs some accesses on the cleared access list, then takes their count
(R401, R464). -/
theorem step_advances (s : State) (h : s.boundary ≠ .halted) :
    ∃ t n, step s = .next t.finishStep ∧ Advances s.beginStep t n := by
  have hb : s.beginStep.boundary = s.boundary := rfl
  unfold step
  dsimp only
  rw [hb]
  cases e : s.boundary with
  | reset => exact ⟨_, _, rfl, Advances.of_resetSequence _⟩
  | halted => exact absurd e h
  | nmi => exact ⟨_, _, rfl, Advances.of_interruptSequence _ _⟩
  | irq => exact ⟨_, _, rfl, Advances.of_interruptSequence _ _⟩
  | instruction =>
    obtain ⟨t, ht, ha⟩ := exec_advances s.beginStep.peekInstr s.beginStep.fetchInstr
    exact ⟨t, _, by dsimp only; rw [ht]; rfl, (Advances.of_fetchInstr s.beginStep).trans ha⟩

end Sys2Proof.Machine
end

