-- ==== Sys2Proof/Laws/PerInstr.lean ====
section
/-! SUPPORT. Statements about every instruction as syntax, one lemma per constructor. -/

namespace Sys2Proof.Laws

/-- The encoding of an instruction is the opcode and as many operand bytes as its mode takes. -/
def EncodeShape.Statement (i : Instr) : Prop :=
  (encode i).head? = some i.opcode ∧ (encode i).length = i.operand.size + 1

theorem EncodeShape.brk : EncodeShape.Statement .brk := ⟨rfl, rfl⟩
theorem EncodeShape.oraIndX (z : Byte) : EncodeShape.Statement (.oraIndX z) := ⟨rfl, rfl⟩
theorem EncodeShape.jam02 : EncodeShape.Statement .jam02 := ⟨rfl, rfl⟩
theorem EncodeShape.sloIndX (z : Byte) : EncodeShape.Statement (.sloIndX z) := ⟨rfl, rfl⟩
theorem EncodeShape.nopZp04 (z : Byte) : EncodeShape.Statement (.nopZp04 z) := ⟨rfl, rfl⟩
theorem EncodeShape.oraZp (z : Byte) : EncodeShape.Statement (.oraZp z) := ⟨rfl, rfl⟩
theorem EncodeShape.aslZp (z : Byte) : EncodeShape.Statement (.aslZp z) := ⟨rfl, rfl⟩
theorem EncodeShape.sloZp (z : Byte) : EncodeShape.Statement (.sloZp z) := ⟨rfl, rfl⟩
theorem EncodeShape.php : EncodeShape.Statement .php := ⟨rfl, rfl⟩
theorem EncodeShape.oraImm (imm : Byte) : EncodeShape.Statement (.oraImm imm) := ⟨rfl, rfl⟩
theorem EncodeShape.aslA : EncodeShape.Statement .aslA := ⟨rfl, rfl⟩
theorem EncodeShape.ancImm0B (imm : Byte) : EncodeShape.Statement (.ancImm0B imm) := ⟨rfl, rfl⟩
theorem EncodeShape.nopAbs0C (addr : Word) : EncodeShape.Statement (.nopAbs0C addr) := ⟨rfl, rfl⟩
theorem EncodeShape.oraAbs (addr : Word) : EncodeShape.Statement (.oraAbs addr) := ⟨rfl, rfl⟩
theorem EncodeShape.aslAbs (addr : Word) : EncodeShape.Statement (.aslAbs addr) := ⟨rfl, rfl⟩
theorem EncodeShape.sloAbs (addr : Word) : EncodeShape.Statement (.sloAbs addr) := ⟨rfl, rfl⟩
theorem EncodeShape.bpl (off : Byte) : EncodeShape.Statement (.bpl off) := ⟨rfl, rfl⟩
theorem EncodeShape.oraIndY (z : Byte) : EncodeShape.Statement (.oraIndY z) := ⟨rfl, rfl⟩
theorem EncodeShape.jam12 : EncodeShape.Statement .jam12 := ⟨rfl, rfl⟩
theorem EncodeShape.sloIndY (z : Byte) : EncodeShape.Statement (.sloIndY z) := ⟨rfl, rfl⟩
theorem EncodeShape.nopZpX14 (z : Byte) : EncodeShape.Statement (.nopZpX14 z) := ⟨rfl, rfl⟩
theorem EncodeShape.oraZpX (z : Byte) : EncodeShape.Statement (.oraZpX z) := ⟨rfl, rfl⟩
theorem EncodeShape.aslZpX (z : Byte) : EncodeShape.Statement (.aslZpX z) := ⟨rfl, rfl⟩
theorem EncodeShape.sloZpX (z : Byte) : EncodeShape.Statement (.sloZpX z) := ⟨rfl, rfl⟩
theorem EncodeShape.clc : EncodeShape.Statement .clc := ⟨rfl, rfl⟩
theorem EncodeShape.oraAbsY (addr : Word) : EncodeShape.Statement (.oraAbsY addr) := ⟨rfl, rfl⟩
theorem EncodeShape.nop1A : EncodeShape.Statement .nop1A := ⟨rfl, rfl⟩
theorem EncodeShape.sloAbsY (addr : Word) : EncodeShape.Statement (.sloAbsY addr) := ⟨rfl, rfl⟩
theorem EncodeShape.nopAbsX1C (addr : Word) : EncodeShape.Statement (.nopAbsX1C addr) := ⟨rfl, rfl⟩
theorem EncodeShape.oraAbsX (addr : Word) : EncodeShape.Statement (.oraAbsX addr) := ⟨rfl, rfl⟩
theorem EncodeShape.aslAbsX (addr : Word) : EncodeShape.Statement (.aslAbsX addr) := ⟨rfl, rfl⟩
theorem EncodeShape.sloAbsX (addr : Word) : EncodeShape.Statement (.sloAbsX addr) := ⟨rfl, rfl⟩
theorem EncodeShape.jsr (l : Byte) : EncodeShape.Statement (.jsr l) := ⟨rfl, rfl⟩
theorem EncodeShape.andIndX (z : Byte) : EncodeShape.Statement (.andIndX z) := ⟨rfl, rfl⟩
theorem EncodeShape.jam22 : EncodeShape.Statement .jam22 := ⟨rfl, rfl⟩
theorem EncodeShape.rlaIndX (z : Byte) : EncodeShape.Statement (.rlaIndX z) := ⟨rfl, rfl⟩
theorem EncodeShape.bitZp (z : Byte) : EncodeShape.Statement (.bitZp z) := ⟨rfl, rfl⟩
theorem EncodeShape.andZp (z : Byte) : EncodeShape.Statement (.andZp z) := ⟨rfl, rfl⟩
theorem EncodeShape.rolZp (z : Byte) : EncodeShape.Statement (.rolZp z) := ⟨rfl, rfl⟩
theorem EncodeShape.rlaZp (z : Byte) : EncodeShape.Statement (.rlaZp z) := ⟨rfl, rfl⟩
theorem EncodeShape.plp : EncodeShape.Statement .plp := ⟨rfl, rfl⟩
theorem EncodeShape.andImm (imm : Byte) : EncodeShape.Statement (.andImm imm) := ⟨rfl, rfl⟩
theorem EncodeShape.rolA : EncodeShape.Statement .rolA := ⟨rfl, rfl⟩
theorem EncodeShape.ancImm2B (imm : Byte) : EncodeShape.Statement (.ancImm2B imm) := ⟨rfl, rfl⟩
theorem EncodeShape.bitAbs (addr : Word) : EncodeShape.Statement (.bitAbs addr) := ⟨rfl, rfl⟩
theorem EncodeShape.andAbs (addr : Word) : EncodeShape.Statement (.andAbs addr) := ⟨rfl, rfl⟩
theorem EncodeShape.rolAbs (addr : Word) : EncodeShape.Statement (.rolAbs addr) := ⟨rfl, rfl⟩
theorem EncodeShape.rlaAbs (addr : Word) : EncodeShape.Statement (.rlaAbs addr) := ⟨rfl, rfl⟩
theorem EncodeShape.bmi (off : Byte) : EncodeShape.Statement (.bmi off) := ⟨rfl, rfl⟩
theorem EncodeShape.andIndY (z : Byte) : EncodeShape.Statement (.andIndY z) := ⟨rfl, rfl⟩
theorem EncodeShape.jam32 : EncodeShape.Statement .jam32 := ⟨rfl, rfl⟩
theorem EncodeShape.rlaIndY (z : Byte) : EncodeShape.Statement (.rlaIndY z) := ⟨rfl, rfl⟩
theorem EncodeShape.nopZpX34 (z : Byte) : EncodeShape.Statement (.nopZpX34 z) := ⟨rfl, rfl⟩
theorem EncodeShape.andZpX (z : Byte) : EncodeShape.Statement (.andZpX z) := ⟨rfl, rfl⟩
theorem EncodeShape.rolZpX (z : Byte) : EncodeShape.Statement (.rolZpX z) := ⟨rfl, rfl⟩
theorem EncodeShape.rlaZpX (z : Byte) : EncodeShape.Statement (.rlaZpX z) := ⟨rfl, rfl⟩
theorem EncodeShape.sec : EncodeShape.Statement .sec := ⟨rfl, rfl⟩
theorem EncodeShape.andAbsY (addr : Word) : EncodeShape.Statement (.andAbsY addr) := ⟨rfl, rfl⟩
theorem EncodeShape.nop3A : EncodeShape.Statement .nop3A := ⟨rfl, rfl⟩
theorem EncodeShape.rlaAbsY (addr : Word) : EncodeShape.Statement (.rlaAbsY addr) := ⟨rfl, rfl⟩
theorem EncodeShape.nopAbsX3C (addr : Word) : EncodeShape.Statement (.nopAbsX3C addr) := ⟨rfl, rfl⟩
theorem EncodeShape.andAbsX (addr : Word) : EncodeShape.Statement (.andAbsX addr) := ⟨rfl, rfl⟩
theorem EncodeShape.rolAbsX (addr : Word) : EncodeShape.Statement (.rolAbsX addr) := ⟨rfl, rfl⟩
theorem EncodeShape.rlaAbsX (addr : Word) : EncodeShape.Statement (.rlaAbsX addr) := ⟨rfl, rfl⟩
theorem EncodeShape.rti : EncodeShape.Statement .rti := ⟨rfl, rfl⟩
theorem EncodeShape.eorIndX (z : Byte) : EncodeShape.Statement (.eorIndX z) := ⟨rfl, rfl⟩
theorem EncodeShape.jam42 : EncodeShape.Statement .jam42 := ⟨rfl, rfl⟩
theorem EncodeShape.sreIndX (z : Byte) : EncodeShape.Statement (.sreIndX z) := ⟨rfl, rfl⟩
theorem EncodeShape.nopZp44 (z : Byte) : EncodeShape.Statement (.nopZp44 z) := ⟨rfl, rfl⟩
theorem EncodeShape.eorZp (z : Byte) : EncodeShape.Statement (.eorZp z) := ⟨rfl, rfl⟩
theorem EncodeShape.lsrZp (z : Byte) : EncodeShape.Statement (.lsrZp z) := ⟨rfl, rfl⟩
theorem EncodeShape.sreZp (z : Byte) : EncodeShape.Statement (.sreZp z) := ⟨rfl, rfl⟩
theorem EncodeShape.pha : EncodeShape.Statement .pha := ⟨rfl, rfl⟩
theorem EncodeShape.eorImm (imm : Byte) : EncodeShape.Statement (.eorImm imm) := ⟨rfl, rfl⟩
theorem EncodeShape.lsrA : EncodeShape.Statement .lsrA := ⟨rfl, rfl⟩
theorem EncodeShape.alrImm (imm : Byte) : EncodeShape.Statement (.alrImm imm) := ⟨rfl, rfl⟩
theorem EncodeShape.jmpAbs (addr : Word) : EncodeShape.Statement (.jmpAbs addr) := ⟨rfl, rfl⟩
theorem EncodeShape.eorAbs (addr : Word) : EncodeShape.Statement (.eorAbs addr) := ⟨rfl, rfl⟩
theorem EncodeShape.lsrAbs (addr : Word) : EncodeShape.Statement (.lsrAbs addr) := ⟨rfl, rfl⟩
theorem EncodeShape.sreAbs (addr : Word) : EncodeShape.Statement (.sreAbs addr) := ⟨rfl, rfl⟩
theorem EncodeShape.bvc (off : Byte) : EncodeShape.Statement (.bvc off) := ⟨rfl, rfl⟩
theorem EncodeShape.eorIndY (z : Byte) : EncodeShape.Statement (.eorIndY z) := ⟨rfl, rfl⟩
theorem EncodeShape.jam52 : EncodeShape.Statement .jam52 := ⟨rfl, rfl⟩
theorem EncodeShape.sreIndY (z : Byte) : EncodeShape.Statement (.sreIndY z) := ⟨rfl, rfl⟩
theorem EncodeShape.nopZpX54 (z : Byte) : EncodeShape.Statement (.nopZpX54 z) := ⟨rfl, rfl⟩
theorem EncodeShape.eorZpX (z : Byte) : EncodeShape.Statement (.eorZpX z) := ⟨rfl, rfl⟩
theorem EncodeShape.lsrZpX (z : Byte) : EncodeShape.Statement (.lsrZpX z) := ⟨rfl, rfl⟩
theorem EncodeShape.sreZpX (z : Byte) : EncodeShape.Statement (.sreZpX z) := ⟨rfl, rfl⟩
theorem EncodeShape.cli : EncodeShape.Statement .cli := ⟨rfl, rfl⟩
theorem EncodeShape.eorAbsY (addr : Word) : EncodeShape.Statement (.eorAbsY addr) := ⟨rfl, rfl⟩
theorem EncodeShape.nop5A : EncodeShape.Statement .nop5A := ⟨rfl, rfl⟩
theorem EncodeShape.sreAbsY (addr : Word) : EncodeShape.Statement (.sreAbsY addr) := ⟨rfl, rfl⟩
theorem EncodeShape.nopAbsX5C (addr : Word) : EncodeShape.Statement (.nopAbsX5C addr) := ⟨rfl, rfl⟩
theorem EncodeShape.eorAbsX (addr : Word) : EncodeShape.Statement (.eorAbsX addr) := ⟨rfl, rfl⟩
theorem EncodeShape.lsrAbsX (addr : Word) : EncodeShape.Statement (.lsrAbsX addr) := ⟨rfl, rfl⟩
theorem EncodeShape.sreAbsX (addr : Word) : EncodeShape.Statement (.sreAbsX addr) := ⟨rfl, rfl⟩
theorem EncodeShape.rts : EncodeShape.Statement .rts := ⟨rfl, rfl⟩
theorem EncodeShape.adcIndX (z : Byte) : EncodeShape.Statement (.adcIndX z) := ⟨rfl, rfl⟩
theorem EncodeShape.jam62 : EncodeShape.Statement .jam62 := ⟨rfl, rfl⟩
theorem EncodeShape.rraIndX (z : Byte) : EncodeShape.Statement (.rraIndX z) := ⟨rfl, rfl⟩
theorem EncodeShape.nopZp64 (z : Byte) : EncodeShape.Statement (.nopZp64 z) := ⟨rfl, rfl⟩
theorem EncodeShape.adcZp (z : Byte) : EncodeShape.Statement (.adcZp z) := ⟨rfl, rfl⟩
theorem EncodeShape.rorZp (z : Byte) : EncodeShape.Statement (.rorZp z) := ⟨rfl, rfl⟩
theorem EncodeShape.rraZp (z : Byte) : EncodeShape.Statement (.rraZp z) := ⟨rfl, rfl⟩
theorem EncodeShape.pla : EncodeShape.Statement .pla := ⟨rfl, rfl⟩
theorem EncodeShape.adcImm (imm : Byte) : EncodeShape.Statement (.adcImm imm) := ⟨rfl, rfl⟩
theorem EncodeShape.rorA : EncodeShape.Statement .rorA := ⟨rfl, rfl⟩
theorem EncodeShape.arrImm (imm : Byte) : EncodeShape.Statement (.arrImm imm) := ⟨rfl, rfl⟩
theorem EncodeShape.jmpInd (ptr : Word) : EncodeShape.Statement (.jmpInd ptr) := ⟨rfl, rfl⟩
theorem EncodeShape.adcAbs (addr : Word) : EncodeShape.Statement (.adcAbs addr) := ⟨rfl, rfl⟩
theorem EncodeShape.rorAbs (addr : Word) : EncodeShape.Statement (.rorAbs addr) := ⟨rfl, rfl⟩
theorem EncodeShape.rraAbs (addr : Word) : EncodeShape.Statement (.rraAbs addr) := ⟨rfl, rfl⟩
theorem EncodeShape.bvs (off : Byte) : EncodeShape.Statement (.bvs off) := ⟨rfl, rfl⟩
theorem EncodeShape.adcIndY (z : Byte) : EncodeShape.Statement (.adcIndY z) := ⟨rfl, rfl⟩
theorem EncodeShape.jam72 : EncodeShape.Statement .jam72 := ⟨rfl, rfl⟩
theorem EncodeShape.rraIndY (z : Byte) : EncodeShape.Statement (.rraIndY z) := ⟨rfl, rfl⟩
theorem EncodeShape.nopZpX74 (z : Byte) : EncodeShape.Statement (.nopZpX74 z) := ⟨rfl, rfl⟩
theorem EncodeShape.adcZpX (z : Byte) : EncodeShape.Statement (.adcZpX z) := ⟨rfl, rfl⟩
theorem EncodeShape.rorZpX (z : Byte) : EncodeShape.Statement (.rorZpX z) := ⟨rfl, rfl⟩
theorem EncodeShape.rraZpX (z : Byte) : EncodeShape.Statement (.rraZpX z) := ⟨rfl, rfl⟩
theorem EncodeShape.sei : EncodeShape.Statement .sei := ⟨rfl, rfl⟩
theorem EncodeShape.adcAbsY (addr : Word) : EncodeShape.Statement (.adcAbsY addr) := ⟨rfl, rfl⟩
theorem EncodeShape.nop7A : EncodeShape.Statement .nop7A := ⟨rfl, rfl⟩
theorem EncodeShape.rraAbsY (addr : Word) : EncodeShape.Statement (.rraAbsY addr) := ⟨rfl, rfl⟩
theorem EncodeShape.nopAbsX7C (addr : Word) : EncodeShape.Statement (.nopAbsX7C addr) := ⟨rfl, rfl⟩
theorem EncodeShape.adcAbsX (addr : Word) : EncodeShape.Statement (.adcAbsX addr) := ⟨rfl, rfl⟩
theorem EncodeShape.rorAbsX (addr : Word) : EncodeShape.Statement (.rorAbsX addr) := ⟨rfl, rfl⟩
theorem EncodeShape.rraAbsX (addr : Word) : EncodeShape.Statement (.rraAbsX addr) := ⟨rfl, rfl⟩
theorem EncodeShape.nopImm80 (imm : Byte) : EncodeShape.Statement (.nopImm80 imm) := ⟨rfl, rfl⟩
theorem EncodeShape.staIndX (z : Byte) : EncodeShape.Statement (.staIndX z) := ⟨rfl, rfl⟩
theorem EncodeShape.nopImm82 (imm : Byte) : EncodeShape.Statement (.nopImm82 imm) := ⟨rfl, rfl⟩
theorem EncodeShape.saxIndX (z : Byte) : EncodeShape.Statement (.saxIndX z) := ⟨rfl, rfl⟩
theorem EncodeShape.styZp (z : Byte) : EncodeShape.Statement (.styZp z) := ⟨rfl, rfl⟩
theorem EncodeShape.staZp (z : Byte) : EncodeShape.Statement (.staZp z) := ⟨rfl, rfl⟩
theorem EncodeShape.stxZp (z : Byte) : EncodeShape.Statement (.stxZp z) := ⟨rfl, rfl⟩
theorem EncodeShape.saxZp (z : Byte) : EncodeShape.Statement (.saxZp z) := ⟨rfl, rfl⟩
theorem EncodeShape.dey : EncodeShape.Statement .dey := ⟨rfl, rfl⟩
theorem EncodeShape.nopImm89 (imm : Byte) : EncodeShape.Statement (.nopImm89 imm) := ⟨rfl, rfl⟩
theorem EncodeShape.txa : EncodeShape.Statement .txa := ⟨rfl, rfl⟩
theorem EncodeShape.aneImm (imm : Byte) : EncodeShape.Statement (.aneImm imm) := ⟨rfl, rfl⟩
theorem EncodeShape.styAbs (addr : Word) : EncodeShape.Statement (.styAbs addr) := ⟨rfl, rfl⟩
theorem EncodeShape.staAbs (addr : Word) : EncodeShape.Statement (.staAbs addr) := ⟨rfl, rfl⟩
theorem EncodeShape.stxAbs (addr : Word) : EncodeShape.Statement (.stxAbs addr) := ⟨rfl, rfl⟩
theorem EncodeShape.saxAbs (addr : Word) : EncodeShape.Statement (.saxAbs addr) := ⟨rfl, rfl⟩
theorem EncodeShape.bcc (off : Byte) : EncodeShape.Statement (.bcc off) := ⟨rfl, rfl⟩
theorem EncodeShape.staIndY (z : Byte) : EncodeShape.Statement (.staIndY z) := ⟨rfl, rfl⟩
theorem EncodeShape.jam92 : EncodeShape.Statement .jam92 := ⟨rfl, rfl⟩
theorem EncodeShape.shaIndY (z : Byte) : EncodeShape.Statement (.shaIndY z) := ⟨rfl, rfl⟩
theorem EncodeShape.styZpX (z : Byte) : EncodeShape.Statement (.styZpX z) := ⟨rfl, rfl⟩
theorem EncodeShape.staZpX (z : Byte) : EncodeShape.Statement (.staZpX z) := ⟨rfl, rfl⟩
theorem EncodeShape.stxZpY (z : Byte) : EncodeShape.Statement (.stxZpY z) := ⟨rfl, rfl⟩
theorem EncodeShape.saxZpY (z : Byte) : EncodeShape.Statement (.saxZpY z) := ⟨rfl, rfl⟩
theorem EncodeShape.tya : EncodeShape.Statement .tya := ⟨rfl, rfl⟩
theorem EncodeShape.staAbsY (addr : Word) : EncodeShape.Statement (.staAbsY addr) := ⟨rfl, rfl⟩
theorem EncodeShape.txs : EncodeShape.Statement .txs := ⟨rfl, rfl⟩
theorem EncodeShape.tasAbsY (addr : Word) : EncodeShape.Statement (.tasAbsY addr) := ⟨rfl, rfl⟩
theorem EncodeShape.shyAbsX (addr : Word) : EncodeShape.Statement (.shyAbsX addr) := ⟨rfl, rfl⟩
theorem EncodeShape.staAbsX (addr : Word) : EncodeShape.Statement (.staAbsX addr) := ⟨rfl, rfl⟩
theorem EncodeShape.shxAbsY (addr : Word) : EncodeShape.Statement (.shxAbsY addr) := ⟨rfl, rfl⟩
theorem EncodeShape.shaAbsY (addr : Word) : EncodeShape.Statement (.shaAbsY addr) := ⟨rfl, rfl⟩
theorem EncodeShape.ldyImm (imm : Byte) : EncodeShape.Statement (.ldyImm imm) := ⟨rfl, rfl⟩
theorem EncodeShape.ldaIndX (z : Byte) : EncodeShape.Statement (.ldaIndX z) := ⟨rfl, rfl⟩
theorem EncodeShape.ldxImm (imm : Byte) : EncodeShape.Statement (.ldxImm imm) := ⟨rfl, rfl⟩
theorem EncodeShape.laxIndX (z : Byte) : EncodeShape.Statement (.laxIndX z) := ⟨rfl, rfl⟩
theorem EncodeShape.ldyZp (z : Byte) : EncodeShape.Statement (.ldyZp z) := ⟨rfl, rfl⟩
theorem EncodeShape.ldaZp (z : Byte) : EncodeShape.Statement (.ldaZp z) := ⟨rfl, rfl⟩
theorem EncodeShape.ldxZp (z : Byte) : EncodeShape.Statement (.ldxZp z) := ⟨rfl, rfl⟩
theorem EncodeShape.laxZp (z : Byte) : EncodeShape.Statement (.laxZp z) := ⟨rfl, rfl⟩
theorem EncodeShape.tay : EncodeShape.Statement .tay := ⟨rfl, rfl⟩
theorem EncodeShape.ldaImm (imm : Byte) : EncodeShape.Statement (.ldaImm imm) := ⟨rfl, rfl⟩
theorem EncodeShape.tax : EncodeShape.Statement .tax := ⟨rfl, rfl⟩
theorem EncodeShape.lxaImm (imm : Byte) : EncodeShape.Statement (.lxaImm imm) := ⟨rfl, rfl⟩
theorem EncodeShape.ldyAbs (addr : Word) : EncodeShape.Statement (.ldyAbs addr) := ⟨rfl, rfl⟩
theorem EncodeShape.ldaAbs (addr : Word) : EncodeShape.Statement (.ldaAbs addr) := ⟨rfl, rfl⟩
theorem EncodeShape.ldxAbs (addr : Word) : EncodeShape.Statement (.ldxAbs addr) := ⟨rfl, rfl⟩
theorem EncodeShape.laxAbs (addr : Word) : EncodeShape.Statement (.laxAbs addr) := ⟨rfl, rfl⟩
theorem EncodeShape.bcs (off : Byte) : EncodeShape.Statement (.bcs off) := ⟨rfl, rfl⟩
theorem EncodeShape.ldaIndY (z : Byte) : EncodeShape.Statement (.ldaIndY z) := ⟨rfl, rfl⟩
theorem EncodeShape.jamB2 : EncodeShape.Statement .jamB2 := ⟨rfl, rfl⟩
theorem EncodeShape.laxIndY (z : Byte) : EncodeShape.Statement (.laxIndY z) := ⟨rfl, rfl⟩
theorem EncodeShape.ldyZpX (z : Byte) : EncodeShape.Statement (.ldyZpX z) := ⟨rfl, rfl⟩
theorem EncodeShape.ldaZpX (z : Byte) : EncodeShape.Statement (.ldaZpX z) := ⟨rfl, rfl⟩
theorem EncodeShape.ldxZpY (z : Byte) : EncodeShape.Statement (.ldxZpY z) := ⟨rfl, rfl⟩
theorem EncodeShape.laxZpY (z : Byte) : EncodeShape.Statement (.laxZpY z) := ⟨rfl, rfl⟩
theorem EncodeShape.clv : EncodeShape.Statement .clv := ⟨rfl, rfl⟩
theorem EncodeShape.ldaAbsY (addr : Word) : EncodeShape.Statement (.ldaAbsY addr) := ⟨rfl, rfl⟩
theorem EncodeShape.tsx : EncodeShape.Statement .tsx := ⟨rfl, rfl⟩
theorem EncodeShape.lasAbsY (addr : Word) : EncodeShape.Statement (.lasAbsY addr) := ⟨rfl, rfl⟩
theorem EncodeShape.ldyAbsX (addr : Word) : EncodeShape.Statement (.ldyAbsX addr) := ⟨rfl, rfl⟩
theorem EncodeShape.ldaAbsX (addr : Word) : EncodeShape.Statement (.ldaAbsX addr) := ⟨rfl, rfl⟩
theorem EncodeShape.ldxAbsY (addr : Word) : EncodeShape.Statement (.ldxAbsY addr) := ⟨rfl, rfl⟩
theorem EncodeShape.laxAbsY (addr : Word) : EncodeShape.Statement (.laxAbsY addr) := ⟨rfl, rfl⟩
theorem EncodeShape.cpyImm (imm : Byte) : EncodeShape.Statement (.cpyImm imm) := ⟨rfl, rfl⟩
theorem EncodeShape.cmpIndX (z : Byte) : EncodeShape.Statement (.cmpIndX z) := ⟨rfl, rfl⟩
theorem EncodeShape.nopImmC2 (imm : Byte) : EncodeShape.Statement (.nopImmC2 imm) := ⟨rfl, rfl⟩
theorem EncodeShape.dcpIndX (z : Byte) : EncodeShape.Statement (.dcpIndX z) := ⟨rfl, rfl⟩
theorem EncodeShape.cpyZp (z : Byte) : EncodeShape.Statement (.cpyZp z) := ⟨rfl, rfl⟩
theorem EncodeShape.cmpZp (z : Byte) : EncodeShape.Statement (.cmpZp z) := ⟨rfl, rfl⟩
theorem EncodeShape.decZp (z : Byte) : EncodeShape.Statement (.decZp z) := ⟨rfl, rfl⟩
theorem EncodeShape.dcpZp (z : Byte) : EncodeShape.Statement (.dcpZp z) := ⟨rfl, rfl⟩
theorem EncodeShape.iny : EncodeShape.Statement .iny := ⟨rfl, rfl⟩
theorem EncodeShape.cmpImm (imm : Byte) : EncodeShape.Statement (.cmpImm imm) := ⟨rfl, rfl⟩
theorem EncodeShape.dex : EncodeShape.Statement .dex := ⟨rfl, rfl⟩
theorem EncodeShape.sbxImm (imm : Byte) : EncodeShape.Statement (.sbxImm imm) := ⟨rfl, rfl⟩
theorem EncodeShape.cpyAbs (addr : Word) : EncodeShape.Statement (.cpyAbs addr) := ⟨rfl, rfl⟩
theorem EncodeShape.cmpAbs (addr : Word) : EncodeShape.Statement (.cmpAbs addr) := ⟨rfl, rfl⟩
theorem EncodeShape.decAbs (addr : Word) : EncodeShape.Statement (.decAbs addr) := ⟨rfl, rfl⟩
theorem EncodeShape.dcpAbs (addr : Word) : EncodeShape.Statement (.dcpAbs addr) := ⟨rfl, rfl⟩
theorem EncodeShape.bne (off : Byte) : EncodeShape.Statement (.bne off) := ⟨rfl, rfl⟩
theorem EncodeShape.cmpIndY (z : Byte) : EncodeShape.Statement (.cmpIndY z) := ⟨rfl, rfl⟩
theorem EncodeShape.jamD2 : EncodeShape.Statement .jamD2 := ⟨rfl, rfl⟩
theorem EncodeShape.dcpIndY (z : Byte) : EncodeShape.Statement (.dcpIndY z) := ⟨rfl, rfl⟩
theorem EncodeShape.nopZpXD4 (z : Byte) : EncodeShape.Statement (.nopZpXD4 z) := ⟨rfl, rfl⟩
theorem EncodeShape.cmpZpX (z : Byte) : EncodeShape.Statement (.cmpZpX z) := ⟨rfl, rfl⟩
theorem EncodeShape.decZpX (z : Byte) : EncodeShape.Statement (.decZpX z) := ⟨rfl, rfl⟩
theorem EncodeShape.dcpZpX (z : Byte) : EncodeShape.Statement (.dcpZpX z) := ⟨rfl, rfl⟩
theorem EncodeShape.cld : EncodeShape.Statement .cld := ⟨rfl, rfl⟩
theorem EncodeShape.cmpAbsY (addr : Word) : EncodeShape.Statement (.cmpAbsY addr) := ⟨rfl, rfl⟩
theorem EncodeShape.nopDA : EncodeShape.Statement .nopDA := ⟨rfl, rfl⟩
theorem EncodeShape.dcpAbsY (addr : Word) : EncodeShape.Statement (.dcpAbsY addr) := ⟨rfl, rfl⟩
theorem EncodeShape.nopAbsXDC (addr : Word) : EncodeShape.Statement (.nopAbsXDC addr) := ⟨rfl, rfl⟩
theorem EncodeShape.cmpAbsX (addr : Word) : EncodeShape.Statement (.cmpAbsX addr) := ⟨rfl, rfl⟩
theorem EncodeShape.decAbsX (addr : Word) : EncodeShape.Statement (.decAbsX addr) := ⟨rfl, rfl⟩
theorem EncodeShape.dcpAbsX (addr : Word) : EncodeShape.Statement (.dcpAbsX addr) := ⟨rfl, rfl⟩
theorem EncodeShape.cpxImm (imm : Byte) : EncodeShape.Statement (.cpxImm imm) := ⟨rfl, rfl⟩
theorem EncodeShape.sbcIndX (z : Byte) : EncodeShape.Statement (.sbcIndX z) := ⟨rfl, rfl⟩
theorem EncodeShape.nopImmE2 (imm : Byte) : EncodeShape.Statement (.nopImmE2 imm) := ⟨rfl, rfl⟩
theorem EncodeShape.iscIndX (z : Byte) : EncodeShape.Statement (.iscIndX z) := ⟨rfl, rfl⟩
theorem EncodeShape.cpxZp (z : Byte) : EncodeShape.Statement (.cpxZp z) := ⟨rfl, rfl⟩
theorem EncodeShape.sbcZp (z : Byte) : EncodeShape.Statement (.sbcZp z) := ⟨rfl, rfl⟩
theorem EncodeShape.incZp (z : Byte) : EncodeShape.Statement (.incZp z) := ⟨rfl, rfl⟩
theorem EncodeShape.iscZp (z : Byte) : EncodeShape.Statement (.iscZp z) := ⟨rfl, rfl⟩
theorem EncodeShape.inx : EncodeShape.Statement .inx := ⟨rfl, rfl⟩
theorem EncodeShape.sbcImm (imm : Byte) : EncodeShape.Statement (.sbcImm imm) := ⟨rfl, rfl⟩
theorem EncodeShape.nop : EncodeShape.Statement .nop := ⟨rfl, rfl⟩
theorem EncodeShape.usbcImm (imm : Byte) : EncodeShape.Statement (.usbcImm imm) := ⟨rfl, rfl⟩
theorem EncodeShape.cpxAbs (addr : Word) : EncodeShape.Statement (.cpxAbs addr) := ⟨rfl, rfl⟩
theorem EncodeShape.sbcAbs (addr : Word) : EncodeShape.Statement (.sbcAbs addr) := ⟨rfl, rfl⟩
theorem EncodeShape.incAbs (addr : Word) : EncodeShape.Statement (.incAbs addr) := ⟨rfl, rfl⟩
theorem EncodeShape.iscAbs (addr : Word) : EncodeShape.Statement (.iscAbs addr) := ⟨rfl, rfl⟩
theorem EncodeShape.beq (off : Byte) : EncodeShape.Statement (.beq off) := ⟨rfl, rfl⟩
theorem EncodeShape.sbcIndY (z : Byte) : EncodeShape.Statement (.sbcIndY z) := ⟨rfl, rfl⟩
theorem EncodeShape.jamF2 : EncodeShape.Statement .jamF2 := ⟨rfl, rfl⟩
theorem EncodeShape.iscIndY (z : Byte) : EncodeShape.Statement (.iscIndY z) := ⟨rfl, rfl⟩
theorem EncodeShape.nopZpXF4 (z : Byte) : EncodeShape.Statement (.nopZpXF4 z) := ⟨rfl, rfl⟩
theorem EncodeShape.sbcZpX (z : Byte) : EncodeShape.Statement (.sbcZpX z) := ⟨rfl, rfl⟩
theorem EncodeShape.incZpX (z : Byte) : EncodeShape.Statement (.incZpX z) := ⟨rfl, rfl⟩
theorem EncodeShape.iscZpX (z : Byte) : EncodeShape.Statement (.iscZpX z) := ⟨rfl, rfl⟩
theorem EncodeShape.sed : EncodeShape.Statement .sed := ⟨rfl, rfl⟩
theorem EncodeShape.sbcAbsY (addr : Word) : EncodeShape.Statement (.sbcAbsY addr) := ⟨rfl, rfl⟩
theorem EncodeShape.nopFA : EncodeShape.Statement .nopFA := ⟨rfl, rfl⟩
theorem EncodeShape.iscAbsY (addr : Word) : EncodeShape.Statement (.iscAbsY addr) := ⟨rfl, rfl⟩
theorem EncodeShape.nopAbsXFC (addr : Word) : EncodeShape.Statement (.nopAbsXFC addr) := ⟨rfl, rfl⟩
theorem EncodeShape.sbcAbsX (addr : Word) : EncodeShape.Statement (.sbcAbsX addr) := ⟨rfl, rfl⟩
theorem EncodeShape.incAbsX (addr : Word) : EncodeShape.Statement (.incAbsX addr) := ⟨rfl, rfl⟩
theorem EncodeShape.iscAbsX (addr : Word) : EncodeShape.Statement (.iscAbsX addr) := ⟨rfl, rfl⟩

end Sys2Proof.Laws
end

