-- ==== Sys2Proof/Machine/Assembler.lean ====
section
/-! DEFINITION. Assembler notation: the text of an instruction line (R110) and the choice of the opcode
(R110, R111). No part of `step`. -/

namespace Sys2Proof.Machine

/-- A mnemonic in the spelling of the opcode map (R106, R110). -/
def mnemonicName : Mnemonic → String
  | .ADC => "ADC"
  | .ALR => "ALR"
  | .ANC => "ANC"
  | .AND => "AND"
  | .ANE => "ANE"
  | .ARR => "ARR"
  | .ASL => "ASL"
  | .BCC => "BCC"
  | .BCS => "BCS"
  | .BEQ => "BEQ"
  | .BIT => "BIT"
  | .BMI => "BMI"
  | .BNE => "BNE"
  | .BPL => "BPL"
  | .BRK => "BRK"
  | .BVC => "BVC"
  | .BVS => "BVS"
  | .CLC => "CLC"
  | .CLD => "CLD"
  | .CLI => "CLI"
  | .CLV => "CLV"
  | .CMP => "CMP"
  | .CPX => "CPX"
  | .CPY => "CPY"
  | .DCP => "DCP"
  | .DEC => "DEC"
  | .DEX => "DEX"
  | .DEY => "DEY"
  | .EOR => "EOR"
  | .INC => "INC"
  | .INX => "INX"
  | .INY => "INY"
  | .ISC => "ISC"
  | .JAM => "JAM"
  | .JMP => "JMP"
  | .JSR => "JSR"
  | .LAS => "LAS"
  | .LAX => "LAX"
  | .LDA => "LDA"
  | .LDX => "LDX"
  | .LDY => "LDY"
  | .LSR => "LSR"
  | .LXA => "LXA"
  | .NOP => "NOP"
  | .ORA => "ORA"
  | .PHA => "PHA"
  | .PHP => "PHP"
  | .PLA => "PLA"
  | .PLP => "PLP"
  | .RLA => "RLA"
  | .ROL => "ROL"
  | .ROR => "ROR"
  | .RRA => "RRA"
  | .RTI => "RTI"
  | .RTS => "RTS"
  | .SAX => "SAX"
  | .SBC => "SBC"
  | .SBX => "SBX"
  | .SEC => "SEC"
  | .SED => "SED"
  | .SEI => "SEI"
  | .SHA => "SHA"
  | .SHX => "SHX"
  | .SHY => "SHY"
  | .SLO => "SLO"
  | .SRE => "SRE"
  | .STA => "STA"
  | .STX => "STX"
  | .STY => "STY"
  | .TAS => "TAS"
  | .TAX => "TAX"
  | .TAY => "TAY"
  | .TSX => "TSX"
  | .TXA => "TXA"
  | .TXS => "TXS"
  | .TYA => "TYA"
  | .USBC => "USBC"

/-- The names other tools give the undocumented mnemonics (R111). A name may stand for two mnemonics, and
DOP and SKB name 2-byte, TOP and IGN 3-byte NOP forms. The assembler below reads the names of the opcode
map only. -/
def mnemonicAliases : Mnemonic → List String
  | .SLO => ["ASO"]
  | .SRE => ["LSE"]
  | .SAX => ["AXS"]
  | .DCP => ["DCM"]
  | .ISC => ["ISB", "INS"]
  | .ALR => ["ASR"]
  | .ANE => ["XAA"]
  | .LXA => ["OAL"]
  | .SBX => ["AXS"]
  | .SHA => ["AHX", "AXA"]
  | .SHX => ["SXA", "XAS"]
  | .SHY => ["SYA", "SAY"]
  | .TAS => ["XAS", "SHS"]
  | .LAS => ["LAR"]
  | .JAM => ["KIL", "HLT"]
  | .NOP => ["DOP", "SKB", "TOP", "IGN"]
  | _ => []

/-- An operand as assembler text gives it (R101, R110). -/
inductive AsmOperand where
  | none
  | accumulator
  | immediate (n : Nat)
  | direct (n : Nat)
  | directX (n : Nat)
  | directY (n : Nat)
  | indirect (n : Nat)
  | indirectX (n : Nat)
  | indirectY (n : Nat)
deriving DecidableEq, Repr

/-- The formats an operand can stand for, the preferred first: a zero-page form is chosen when the address
is below $0100 and the mnemonic has one (R110). -/
def AsmOperand.formats : AsmOperand → List Format
  | .none => [.implied]
  | .accumulator => [.accumulator]
  | .immediate _ => [.immediate]
  | .direct n => if n < 0x100 then [.zeropage, .absolute, .relative] else [.absolute, .relative]
  | .directX n => if n < 0x100 then [.zeropageX, .absoluteX] else [.absoluteX]
  | .directY n => if n < 0x100 then [.zeropageY, .absoluteY] else [.absoluteY]
  | .indirect _ => [.absoluteIndirect]
  | .indirectX _ => [.indexedIndirectX]
  | .indirectY _ => [.indirectIndexedY]

/-- The number written in an operand. -/
def AsmOperand.value : AsmOperand → Nat
  | .none | .accumulator => 0
  | .immediate n | .direct n | .directX n | .directY n | .indirect n | .indirectX n | .indirectY n => n

/-- The first opcode in opcode order whose row passes a test (R111). -/
def firstOpcode (test : OpcodeRow → Bool) : Option Byte :=
  (opcodeTable.findIdx? test).map fun n => BitVec.ofNat 8 n

/-- The opcode of a mnemonic in a format: the documented one if there is one, else the first of the
undocumented ones in opcode order (R111, log entry 14). -/
def opcodeFor (mn : Mnemonic) (f : Format) : Option Byte :=
  (firstOpcode fun r => decide (r.mnemonic = mn) && decide (r.format = f) && r.documented).or
    (firstOpcode fun r => decide (r.mnemonic = mn) && decide (r.format = f))

/-- The opcode and format the assembler chooses. -/
def chooseOpcode (mn : Mnemonic) (o : AsmOperand) : Option (Byte × Format) :=
  o.formats.findSome? fun f => (opcodeFor mn f).map fun op => (op, f)

/-- The operand bytes of a format for a written number, at the address of the instruction; `none` where
the number does not fit (R103, R110: a branch operand is the target address). -/
def operandBytes (f : Format) (n : Nat) (at_ : Word) : Option (List Byte) :=
  match f with
  | .implied | .accumulator => some []
  | .immediate | .zeropage | .zeropageX | .zeropageY | .indexedIndirectX | .indirectIndexedY =>
    if n < 0x100 then some [BitVec.ofNat 8 n] else none
  | .absolute | .absoluteX | .absoluteY | .absoluteIndirect =>
    if n < 0x10000 then some [lo (BitVec.ofNat 16 n), hi (BitVec.ofNat 16 n)] else none
  | .relative =>
    let off := lo (BitVec.ofNat 16 n - (at_ + 2))
    if n < 0x10000 ∧ at_ + 2 + sext off = BitVec.ofNat 16 n then some [off] else none

/-- The bytes of an instruction written with a mnemonic and an operand, at an address (R110, R111). -/
def assemble (mn : Mnemonic) (o : AsmOperand) (at_ : Word) : Option (List Byte) :=
  (chooseOpcode mn o).bind fun c => (operandBytes c.2 o.value at_).map fun bs => c.1 :: bs

/-! ## Text -/

/-- The value of a digit in a base up to 16, in either case. -/
def digitValue (base : Nat) (c : Char) : Option Nat :=
  let v := if '0' ≤ c ∧ c ≤ '9' then c.toNat - '0'.toNat
    else if 'A' ≤ c.toUpper ∧ c.toUpper ≤ 'F' then c.toUpper.toNat - 'A'.toNat + 10 else 16
  if v < base then some v else none

/-- A nonempty digit string in a base. -/
def digits (base : Nat) (cs : List Char) : Option Nat :=
  if cs.isEmpty then none
  else cs.foldl (fun acc c => acc.bind fun n => (digitValue base c).map fun d => n * base + d) (some 0)

/-- A number: `$` hexadecimal, `%` binary, decimal without a sign in front (R110). -/
def parseNumber : List Char → Option Nat
  | [] => none
  | c :: cs => if c = '$' then digits 16 cs else if c = '%' then digits 2 cs else digits 10 (c :: cs)

/-- Take a suffix off a text. -/
def stripSuffix (suffix cs : List Char) : Option (List Char) :=
  if suffix.isSuffixOf cs then some (cs.take (cs.length - suffix.length)) else none

/-- An operand without spaces, in upper case (R101, R110). -/
def parseOperand : List Char → Option AsmOperand
  | [] => some .none
  | c :: cs =>
    if c = 'A' ∧ cs = [] then some .accumulator
    else if c = '#' then (parseNumber cs).map .immediate
    else if c = '(' then
      ((stripSuffix ",X)".toList cs).bind fun n => (parseNumber n).map .indirectX).or
        (((stripSuffix "),Y".toList cs).bind fun n => (parseNumber n).map .indirectY).or
          ((stripSuffix ")".toList cs).bind fun n => (parseNumber n).map .indirect))
    else
      ((stripSuffix ",X".toList (c :: cs)).bind fun n => (parseNumber n).map .directX).or
        (((stripSuffix ",Y".toList (c :: cs)).bind fun n => (parseNumber n).map .directY).or
          ((parseNumber (c :: cs)).map .direct))

/-- A line: a mnemonic in either case, then an operand (R110). -/
def parseLine (line : String) : Option (Mnemonic × AsmOperand) :=
  let cs := (line.toList.dropWhile (· = ' ')).map Char.toUpper
  let name := String.ofList (cs.takeWhile (· ≠ ' '))
  let operand := (cs.dropWhile (· ≠ ' ')).filter (· ≠ ' ')
  ((opcodeTable.find? fun r => decide (mnemonicName r.mnemonic = name)).map OpcodeRow.mnemonic).bind fun mn =>
    (parseOperand operand).map fun o => (mn, o)

/-- The bytes of an assembler line at an address. -/
def assembleLine (line : String) (at_ : Word) : Option (List Byte) :=
  (parseLine line).bind fun e => assemble e.1 e.2 at_

end Sys2Proof.Machine
end

