-- ==== Sys2Proof/Tests/Slice0.lean ====
section
/-! SUPPORT. The author's own tests: the configuration check, the decoder against words written out from the
opcode map, single steps against the vectors of 95_test_vectors.md and the rules' examples, the assembler,
and a witness for the hypotheses of every obligation. -/

namespace Sys2Proof.Machine

set_option Elab.async false

/-! ## Smoke: each check of R72 refuses -/

/-- A valid cartridge: 16 KiB PRG-ROM, 2 KiB PRG-RAM. -/
def smokeCart : Cartridge := ⟨some 16384, [(0, 0xEA), (0x3FFC, 0x00), (0x3FFD, 0x80)], 2048, [(2047, 0x5A)], true, true⟩

/-- Power-up parameters, every one of them zero. -/
def smokePower : PowerUp := ⟨0, 0, 0, false, false, false, false, false, []⟩

theorem test_valid_cartridge : smokeCart.flaws = [] := by decide
theorem test_no_rom_refused : { smokeCart with prgRomSize := none, prgRom := [] }.flaws = [.prgRomAbsent] := by decide
theorem test_rom_size_refused : { smokeCart with prgRomSize := some 8192, prgRom := [] }.flaws = [.prgRomSize] := by decide
theorem test_ram_size_refused : { smokeCart with prgRamSize := 1024, prgRamInit := [] }.flaws = [.prgRamSize] := by decide
theorem test_no_ppu_hook_refused : { smokeCart with ppuHook := false }.flaws = [.ppuHookMissing] := by decide
theorem test_no_apu_hook_refused : { smokeCart with apuIoHook := false }.flaws = [.apuIoHookMissing] := by decide
theorem test_rom_offset_refused : { smokeCart with prgRom := [(16384, 0)] }.flaws = [.prgRomOffset] := by decide
theorem test_ram_offset_refused : { smokeCart with prgRamInit := [(2048, 0)] }.flaws = [.prgRamOffset] := by decide
theorem test_refused_machine :
    construct { smokeCart with apuIoHook := false } smokePower [] [] = .refused .invalidConfiguration := rfl

/-- Any term of `Instr` is admitted, so no ill-formed instruction exists; what the decoder refuses is a byte
list that ends before the instruction does. -/
theorem test_truncated_refused :
    decode [] = .error .noBytes ∧ decode [0xA9] = .error (.truncated 0xA9) ∧
      decode [0x8D, 0x00] = .error (.truncated 0x8D) := ⟨rfl, rfl, rfl⟩

/-! ## Decoding: each row of the opcode map, its word written from R101 and R106

The operand byte is $34; the second operand byte is $12, so that a word operand is $1234. -/

/-- The decoder reads this instruction and leaves the rest. -/
def reads (bytes : List Byte) (i : Instr) (rest : List Byte) : Bool :=
  match decode bytes with
  | .ok (j, r) => decide (j = i) && decide (r = rest)
  | .error _ => false

theorem test_decode_row0 :
    reads [0x00, 0x99] (.brk) [0x99] ∧
    reads [0x01, 0x34, 0x99] (.oraIndX 0x34) [0x99] ∧
    reads [0x02, 0x99] (.jam02) [0x99] ∧
    reads [0x03, 0x34, 0x99] (.sloIndX 0x34) [0x99] ∧
    reads [0x04, 0x34, 0x99] (.nopZp04 0x34) [0x99] ∧
    reads [0x05, 0x34, 0x99] (.oraZp 0x34) [0x99] ∧
    reads [0x06, 0x34, 0x99] (.aslZp 0x34) [0x99] ∧
    reads [0x07, 0x34, 0x99] (.sloZp 0x34) [0x99] ∧
    reads [0x08, 0x99] (.php) [0x99] ∧
    reads [0x09, 0x34, 0x99] (.oraImm 0x34) [0x99] ∧
    reads [0x0A, 0x99] (.aslA) [0x99] ∧
    reads [0x0B, 0x34, 0x99] (.ancImm0B 0x34) [0x99] ∧
    reads [0x0C, 0x34, 0x12, 0x99] (.nopAbs0C 0x1234) [0x99] ∧
    reads [0x0D, 0x34, 0x12, 0x99] (.oraAbs 0x1234) [0x99] ∧
    reads [0x0E, 0x34, 0x12, 0x99] (.aslAbs 0x1234) [0x99] ∧
    reads [0x0F, 0x34, 0x12, 0x99] (.sloAbs 0x1234) [0x99] := by decide +kernel

theorem test_decode_row1 :
    reads [0x10, 0x34, 0x99] (.bpl 0x34) [0x99] ∧
    reads [0x11, 0x34, 0x99] (.oraIndY 0x34) [0x99] ∧
    reads [0x12, 0x99] (.jam12) [0x99] ∧
    reads [0x13, 0x34, 0x99] (.sloIndY 0x34) [0x99] ∧
    reads [0x14, 0x34, 0x99] (.nopZpX14 0x34) [0x99] ∧
    reads [0x15, 0x34, 0x99] (.oraZpX 0x34) [0x99] ∧
    reads [0x16, 0x34, 0x99] (.aslZpX 0x34) [0x99] ∧
    reads [0x17, 0x34, 0x99] (.sloZpX 0x34) [0x99] ∧
    reads [0x18, 0x99] (.clc) [0x99] ∧
    reads [0x19, 0x34, 0x12, 0x99] (.oraAbsY 0x1234) [0x99] ∧
    reads [0x1A, 0x99] (.nop1A) [0x99] ∧
    reads [0x1B, 0x34, 0x12, 0x99] (.sloAbsY 0x1234) [0x99] ∧
    reads [0x1C, 0x34, 0x12, 0x99] (.nopAbsX1C 0x1234) [0x99] ∧
    reads [0x1D, 0x34, 0x12, 0x99] (.oraAbsX 0x1234) [0x99] ∧
    reads [0x1E, 0x34, 0x12, 0x99] (.aslAbsX 0x1234) [0x99] ∧
    reads [0x1F, 0x34, 0x12, 0x99] (.sloAbsX 0x1234) [0x99] := by decide +kernel

theorem test_decode_row2 :
    reads [0x20, 0x34, 0x99] (.jsr 0x34) [0x99] ∧
    reads [0x21, 0x34, 0x99] (.andIndX 0x34) [0x99] ∧
    reads [0x22, 0x99] (.jam22) [0x99] ∧
    reads [0x23, 0x34, 0x99] (.rlaIndX 0x34) [0x99] ∧
    reads [0x24, 0x34, 0x99] (.bitZp 0x34) [0x99] ∧
    reads [0x25, 0x34, 0x99] (.andZp 0x34) [0x99] ∧
    reads [0x26, 0x34, 0x99] (.rolZp 0x34) [0x99] ∧
    reads [0x27, 0x34, 0x99] (.rlaZp 0x34) [0x99] ∧
    reads [0x28, 0x99] (.plp) [0x99] ∧
    reads [0x29, 0x34, 0x99] (.andImm 0x34) [0x99] ∧
    reads [0x2A, 0x99] (.rolA) [0x99] ∧
    reads [0x2B, 0x34, 0x99] (.ancImm2B 0x34) [0x99] ∧
    reads [0x2C, 0x34, 0x12, 0x99] (.bitAbs 0x1234) [0x99] ∧
    reads [0x2D, 0x34, 0x12, 0x99] (.andAbs 0x1234) [0x99] ∧
    reads [0x2E, 0x34, 0x12, 0x99] (.rolAbs 0x1234) [0x99] ∧
    reads [0x2F, 0x34, 0x12, 0x99] (.rlaAbs 0x1234) [0x99] := by decide +kernel

theorem test_decode_row3 :
    reads [0x30, 0x34, 0x99] (.bmi 0x34) [0x99] ∧
    reads [0x31, 0x34, 0x99] (.andIndY 0x34) [0x99] ∧
    reads [0x32, 0x99] (.jam32) [0x99] ∧
    reads [0x33, 0x34, 0x99] (.rlaIndY 0x34) [0x99] ∧
    reads [0x34, 0x34, 0x99] (.nopZpX34 0x34) [0x99] ∧
    reads [0x35, 0x34, 0x99] (.andZpX 0x34) [0x99] ∧
    reads [0x36, 0x34, 0x99] (.rolZpX 0x34) [0x99] ∧
    reads [0x37, 0x34, 0x99] (.rlaZpX 0x34) [0x99] ∧
    reads [0x38, 0x99] (.sec) [0x99] ∧
    reads [0x39, 0x34, 0x12, 0x99] (.andAbsY 0x1234) [0x99] ∧
    reads [0x3A, 0x99] (.nop3A) [0x99] ∧
    reads [0x3B, 0x34, 0x12, 0x99] (.rlaAbsY 0x1234) [0x99] ∧
    reads [0x3C, 0x34, 0x12, 0x99] (.nopAbsX3C 0x1234) [0x99] ∧
    reads [0x3D, 0x34, 0x12, 0x99] (.andAbsX 0x1234) [0x99] ∧
    reads [0x3E, 0x34, 0x12, 0x99] (.rolAbsX 0x1234) [0x99] ∧
    reads [0x3F, 0x34, 0x12, 0x99] (.rlaAbsX 0x1234) [0x99] := by decide +kernel

theorem test_decode_row4 :
    reads [0x40, 0x99] (.rti) [0x99] ∧
    reads [0x41, 0x34, 0x99] (.eorIndX 0x34) [0x99] ∧
    reads [0x42, 0x99] (.jam42) [0x99] ∧
    reads [0x43, 0x34, 0x99] (.sreIndX 0x34) [0x99] ∧
    reads [0x44, 0x34, 0x99] (.nopZp44 0x34) [0x99] ∧
    reads [0x45, 0x34, 0x99] (.eorZp 0x34) [0x99] ∧
    reads [0x46, 0x34, 0x99] (.lsrZp 0x34) [0x99] ∧
    reads [0x47, 0x34, 0x99] (.sreZp 0x34) [0x99] ∧
    reads [0x48, 0x99] (.pha) [0x99] ∧
    reads [0x49, 0x34, 0x99] (.eorImm 0x34) [0x99] ∧
    reads [0x4A, 0x99] (.lsrA) [0x99] ∧
    reads [0x4B, 0x34, 0x99] (.alrImm 0x34) [0x99] ∧
    reads [0x4C, 0x34, 0x12, 0x99] (.jmpAbs 0x1234) [0x99] ∧
    reads [0x4D, 0x34, 0x12, 0x99] (.eorAbs 0x1234) [0x99] ∧
    reads [0x4E, 0x34, 0x12, 0x99] (.lsrAbs 0x1234) [0x99] ∧
    reads [0x4F, 0x34, 0x12, 0x99] (.sreAbs 0x1234) [0x99] := by decide +kernel

theorem test_decode_row5 :
    reads [0x50, 0x34, 0x99] (.bvc 0x34) [0x99] ∧
    reads [0x51, 0x34, 0x99] (.eorIndY 0x34) [0x99] ∧
    reads [0x52, 0x99] (.jam52) [0x99] ∧
    reads [0x53, 0x34, 0x99] (.sreIndY 0x34) [0x99] ∧
    reads [0x54, 0x34, 0x99] (.nopZpX54 0x34) [0x99] ∧
    reads [0x55, 0x34, 0x99] (.eorZpX 0x34) [0x99] ∧
    reads [0x56, 0x34, 0x99] (.lsrZpX 0x34) [0x99] ∧
    reads [0x57, 0x34, 0x99] (.sreZpX 0x34) [0x99] ∧
    reads [0x58, 0x99] (.cli) [0x99] ∧
    reads [0x59, 0x34, 0x12, 0x99] (.eorAbsY 0x1234) [0x99] ∧
    reads [0x5A, 0x99] (.nop5A) [0x99] ∧
    reads [0x5B, 0x34, 0x12, 0x99] (.sreAbsY 0x1234) [0x99] ∧
    reads [0x5C, 0x34, 0x12, 0x99] (.nopAbsX5C 0x1234) [0x99] ∧
    reads [0x5D, 0x34, 0x12, 0x99] (.eorAbsX 0x1234) [0x99] ∧
    reads [0x5E, 0x34, 0x12, 0x99] (.lsrAbsX 0x1234) [0x99] ∧
    reads [0x5F, 0x34, 0x12, 0x99] (.sreAbsX 0x1234) [0x99] := by decide +kernel

theorem test_decode_row6 :
    reads [0x60, 0x99] (.rts) [0x99] ∧
    reads [0x61, 0x34, 0x99] (.adcIndX 0x34) [0x99] ∧
    reads [0x62, 0x99] (.jam62) [0x99] ∧
    reads [0x63, 0x34, 0x99] (.rraIndX 0x34) [0x99] ∧
    reads [0x64, 0x34, 0x99] (.nopZp64 0x34) [0x99] ∧
    reads [0x65, 0x34, 0x99] (.adcZp 0x34) [0x99] ∧
    reads [0x66, 0x34, 0x99] (.rorZp 0x34) [0x99] ∧
    reads [0x67, 0x34, 0x99] (.rraZp 0x34) [0x99] ∧
    reads [0x68, 0x99] (.pla) [0x99] ∧
    reads [0x69, 0x34, 0x99] (.adcImm 0x34) [0x99] ∧
    reads [0x6A, 0x99] (.rorA) [0x99] ∧
    reads [0x6B, 0x34, 0x99] (.arrImm 0x34) [0x99] ∧
    reads [0x6C, 0x34, 0x12, 0x99] (.jmpInd 0x1234) [0x99] ∧
    reads [0x6D, 0x34, 0x12, 0x99] (.adcAbs 0x1234) [0x99] ∧
    reads [0x6E, 0x34, 0x12, 0x99] (.rorAbs 0x1234) [0x99] ∧
    reads [0x6F, 0x34, 0x12, 0x99] (.rraAbs 0x1234) [0x99] := by decide +kernel

theorem test_decode_row7 :
    reads [0x70, 0x34, 0x99] (.bvs 0x34) [0x99] ∧
    reads [0x71, 0x34, 0x99] (.adcIndY 0x34) [0x99] ∧
    reads [0x72, 0x99] (.jam72) [0x99] ∧
    reads [0x73, 0x34, 0x99] (.rraIndY 0x34) [0x99] ∧
    reads [0x74, 0x34, 0x99] (.nopZpX74 0x34) [0x99] ∧
    reads [0x75, 0x34, 0x99] (.adcZpX 0x34) [0x99] ∧
    reads [0x76, 0x34, 0x99] (.rorZpX 0x34) [0x99] ∧
    reads [0x77, 0x34, 0x99] (.rraZpX 0x34) [0x99] ∧
    reads [0x78, 0x99] (.sei) [0x99] ∧
    reads [0x79, 0x34, 0x12, 0x99] (.adcAbsY 0x1234) [0x99] ∧
    reads [0x7A, 0x99] (.nop7A) [0x99] ∧
    reads [0x7B, 0x34, 0x12, 0x99] (.rraAbsY 0x1234) [0x99] ∧
    reads [0x7C, 0x34, 0x12, 0x99] (.nopAbsX7C 0x1234) [0x99] ∧
    reads [0x7D, 0x34, 0x12, 0x99] (.adcAbsX 0x1234) [0x99] ∧
    reads [0x7E, 0x34, 0x12, 0x99] (.rorAbsX 0x1234) [0x99] ∧
    reads [0x7F, 0x34, 0x12, 0x99] (.rraAbsX 0x1234) [0x99] := by decide +kernel

theorem test_decode_row8 :
    reads [0x80, 0x34, 0x99] (.nopImm80 0x34) [0x99] ∧
    reads [0x81, 0x34, 0x99] (.staIndX 0x34) [0x99] ∧
    reads [0x82, 0x34, 0x99] (.nopImm82 0x34) [0x99] ∧
    reads [0x83, 0x34, 0x99] (.saxIndX 0x34) [0x99] ∧
    reads [0x84, 0x34, 0x99] (.styZp 0x34) [0x99] ∧
    reads [0x85, 0x34, 0x99] (.staZp 0x34) [0x99] ∧
    reads [0x86, 0x34, 0x99] (.stxZp 0x34) [0x99] ∧
    reads [0x87, 0x34, 0x99] (.saxZp 0x34) [0x99] ∧
    reads [0x88, 0x99] (.dey) [0x99] ∧
    reads [0x89, 0x34, 0x99] (.nopImm89 0x34) [0x99] ∧
    reads [0x8A, 0x99] (.txa) [0x99] ∧
    reads [0x8B, 0x34, 0x99] (.aneImm 0x34) [0x99] ∧
    reads [0x8C, 0x34, 0x12, 0x99] (.styAbs 0x1234) [0x99] ∧
    reads [0x8D, 0x34, 0x12, 0x99] (.staAbs 0x1234) [0x99] ∧
    reads [0x8E, 0x34, 0x12, 0x99] (.stxAbs 0x1234) [0x99] ∧
    reads [0x8F, 0x34, 0x12, 0x99] (.saxAbs 0x1234) [0x99] := by decide +kernel

theorem test_decode_row9 :
    reads [0x90, 0x34, 0x99] (.bcc 0x34) [0x99] ∧
    reads [0x91, 0x34, 0x99] (.staIndY 0x34) [0x99] ∧
    reads [0x92, 0x99] (.jam92) [0x99] ∧
    reads [0x93, 0x34, 0x99] (.shaIndY 0x34) [0x99] ∧
    reads [0x94, 0x34, 0x99] (.styZpX 0x34) [0x99] ∧
    reads [0x95, 0x34, 0x99] (.staZpX 0x34) [0x99] ∧
    reads [0x96, 0x34, 0x99] (.stxZpY 0x34) [0x99] ∧
    reads [0x97, 0x34, 0x99] (.saxZpY 0x34) [0x99] ∧
    reads [0x98, 0x99] (.tya) [0x99] ∧
    reads [0x99, 0x34, 0x12, 0x99] (.staAbsY 0x1234) [0x99] ∧
    reads [0x9A, 0x99] (.txs) [0x99] ∧
    reads [0x9B, 0x34, 0x12, 0x99] (.tasAbsY 0x1234) [0x99] ∧
    reads [0x9C, 0x34, 0x12, 0x99] (.shyAbsX 0x1234) [0x99] ∧
    reads [0x9D, 0x34, 0x12, 0x99] (.staAbsX 0x1234) [0x99] ∧
    reads [0x9E, 0x34, 0x12, 0x99] (.shxAbsY 0x1234) [0x99] ∧
    reads [0x9F, 0x34, 0x12, 0x99] (.shaAbsY 0x1234) [0x99] := by decide +kernel

theorem test_decode_rowA :
    reads [0xA0, 0x34, 0x99] (.ldyImm 0x34) [0x99] ∧
    reads [0xA1, 0x34, 0x99] (.ldaIndX 0x34) [0x99] ∧
    reads [0xA2, 0x34, 0x99] (.ldxImm 0x34) [0x99] ∧
    reads [0xA3, 0x34, 0x99] (.laxIndX 0x34) [0x99] ∧
    reads [0xA4, 0x34, 0x99] (.ldyZp 0x34) [0x99] ∧
    reads [0xA5, 0x34, 0x99] (.ldaZp 0x34) [0x99] ∧
    reads [0xA6, 0x34, 0x99] (.ldxZp 0x34) [0x99] ∧
    reads [0xA7, 0x34, 0x99] (.laxZp 0x34) [0x99] ∧
    reads [0xA8, 0x99] (.tay) [0x99] ∧
    reads [0xA9, 0x34, 0x99] (.ldaImm 0x34) [0x99] ∧
    reads [0xAA, 0x99] (.tax) [0x99] ∧
    reads [0xAB, 0x34, 0x99] (.lxaImm 0x34) [0x99] ∧
    reads [0xAC, 0x34, 0x12, 0x99] (.ldyAbs 0x1234) [0x99] ∧
    reads [0xAD, 0x34, 0x12, 0x99] (.ldaAbs 0x1234) [0x99] ∧
    reads [0xAE, 0x34, 0x12, 0x99] (.ldxAbs 0x1234) [0x99] ∧
    reads [0xAF, 0x34, 0x12, 0x99] (.laxAbs 0x1234) [0x99] := by decide +kernel

theorem test_decode_rowB :
    reads [0xB0, 0x34, 0x99] (.bcs 0x34) [0x99] ∧
    reads [0xB1, 0x34, 0x99] (.ldaIndY 0x34) [0x99] ∧
    reads [0xB2, 0x99] (.jamB2) [0x99] ∧
    reads [0xB3, 0x34, 0x99] (.laxIndY 0x34) [0x99] ∧
    reads [0xB4, 0x34, 0x99] (.ldyZpX 0x34) [0x99] ∧
    reads [0xB5, 0x34, 0x99] (.ldaZpX 0x34) [0x99] ∧
    reads [0xB6, 0x34, 0x99] (.ldxZpY 0x34) [0x99] ∧
    reads [0xB7, 0x34, 0x99] (.laxZpY 0x34) [0x99] ∧
    reads [0xB8, 0x99] (.clv) [0x99] ∧
    reads [0xB9, 0x34, 0x12, 0x99] (.ldaAbsY 0x1234) [0x99] ∧
    reads [0xBA, 0x99] (.tsx) [0x99] ∧
    reads [0xBB, 0x34, 0x12, 0x99] (.lasAbsY 0x1234) [0x99] ∧
    reads [0xBC, 0x34, 0x12, 0x99] (.ldyAbsX 0x1234) [0x99] ∧
    reads [0xBD, 0x34, 0x12, 0x99] (.ldaAbsX 0x1234) [0x99] ∧
    reads [0xBE, 0x34, 0x12, 0x99] (.ldxAbsY 0x1234) [0x99] ∧
    reads [0xBF, 0x34, 0x12, 0x99] (.laxAbsY 0x1234) [0x99] := by decide +kernel

theorem test_decode_rowC :
    reads [0xC0, 0x34, 0x99] (.cpyImm 0x34) [0x99] ∧
    reads [0xC1, 0x34, 0x99] (.cmpIndX 0x34) [0x99] ∧
    reads [0xC2, 0x34, 0x99] (.nopImmC2 0x34) [0x99] ∧
    reads [0xC3, 0x34, 0x99] (.dcpIndX 0x34) [0x99] ∧
    reads [0xC4, 0x34, 0x99] (.cpyZp 0x34) [0x99] ∧
    reads [0xC5, 0x34, 0x99] (.cmpZp 0x34) [0x99] ∧
    reads [0xC6, 0x34, 0x99] (.decZp 0x34) [0x99] ∧
    reads [0xC7, 0x34, 0x99] (.dcpZp 0x34) [0x99] ∧
    reads [0xC8, 0x99] (.iny) [0x99] ∧
    reads [0xC9, 0x34, 0x99] (.cmpImm 0x34) [0x99] ∧
    reads [0xCA, 0x99] (.dex) [0x99] ∧
    reads [0xCB, 0x34, 0x99] (.sbxImm 0x34) [0x99] ∧
    reads [0xCC, 0x34, 0x12, 0x99] (.cpyAbs 0x1234) [0x99] ∧
    reads [0xCD, 0x34, 0x12, 0x99] (.cmpAbs 0x1234) [0x99] ∧
    reads [0xCE, 0x34, 0x12, 0x99] (.decAbs 0x1234) [0x99] ∧
    reads [0xCF, 0x34, 0x12, 0x99] (.dcpAbs 0x1234) [0x99] := by decide +kernel

theorem test_decode_rowD :
    reads [0xD0, 0x34, 0x99] (.bne 0x34) [0x99] ∧
    reads [0xD1, 0x34, 0x99] (.cmpIndY 0x34) [0x99] ∧
    reads [0xD2, 0x99] (.jamD2) [0x99] ∧
    reads [0xD3, 0x34, 0x99] (.dcpIndY 0x34) [0x99] ∧
    reads [0xD4, 0x34, 0x99] (.nopZpXD4 0x34) [0x99] ∧
    reads [0xD5, 0x34, 0x99] (.cmpZpX 0x34) [0x99] ∧
    reads [0xD6, 0x34, 0x99] (.decZpX 0x34) [0x99] ∧
    reads [0xD7, 0x34, 0x99] (.dcpZpX 0x34) [0x99] ∧
    reads [0xD8, 0x99] (.cld) [0x99] ∧
    reads [0xD9, 0x34, 0x12, 0x99] (.cmpAbsY 0x1234) [0x99] ∧
    reads [0xDA, 0x99] (.nopDA) [0x99] ∧
    reads [0xDB, 0x34, 0x12, 0x99] (.dcpAbsY 0x1234) [0x99] ∧
    reads [0xDC, 0x34, 0x12, 0x99] (.nopAbsXDC 0x1234) [0x99] ∧
    reads [0xDD, 0x34, 0x12, 0x99] (.cmpAbsX 0x1234) [0x99] ∧
    reads [0xDE, 0x34, 0x12, 0x99] (.decAbsX 0x1234) [0x99] ∧
    reads [0xDF, 0x34, 0x12, 0x99] (.dcpAbsX 0x1234) [0x99] := by decide +kernel

theorem test_decode_rowE :
    reads [0xE0, 0x34, 0x99] (.cpxImm 0x34) [0x99] ∧
    reads [0xE1, 0x34, 0x99] (.sbcIndX 0x34) [0x99] ∧
    reads [0xE2, 0x34, 0x99] (.nopImmE2 0x34) [0x99] ∧
    reads [0xE3, 0x34, 0x99] (.iscIndX 0x34) [0x99] ∧
    reads [0xE4, 0x34, 0x99] (.cpxZp 0x34) [0x99] ∧
    reads [0xE5, 0x34, 0x99] (.sbcZp 0x34) [0x99] ∧
    reads [0xE6, 0x34, 0x99] (.incZp 0x34) [0x99] ∧
    reads [0xE7, 0x34, 0x99] (.iscZp 0x34) [0x99] ∧
    reads [0xE8, 0x99] (.inx) [0x99] ∧
    reads [0xE9, 0x34, 0x99] (.sbcImm 0x34) [0x99] ∧
    reads [0xEA, 0x99] (.nop) [0x99] ∧
    reads [0xEB, 0x34, 0x99] (.usbcImm 0x34) [0x99] ∧
    reads [0xEC, 0x34, 0x12, 0x99] (.cpxAbs 0x1234) [0x99] ∧
    reads [0xED, 0x34, 0x12, 0x99] (.sbcAbs 0x1234) [0x99] ∧
    reads [0xEE, 0x34, 0x12, 0x99] (.incAbs 0x1234) [0x99] ∧
    reads [0xEF, 0x34, 0x12, 0x99] (.iscAbs 0x1234) [0x99] := by decide +kernel

theorem test_decode_rowF :
    reads [0xF0, 0x34, 0x99] (.beq 0x34) [0x99] ∧
    reads [0xF1, 0x34, 0x99] (.sbcIndY 0x34) [0x99] ∧
    reads [0xF2, 0x99] (.jamF2) [0x99] ∧
    reads [0xF3, 0x34, 0x99] (.iscIndY 0x34) [0x99] ∧
    reads [0xF4, 0x34, 0x99] (.nopZpXF4 0x34) [0x99] ∧
    reads [0xF5, 0x34, 0x99] (.sbcZpX 0x34) [0x99] ∧
    reads [0xF6, 0x34, 0x99] (.incZpX 0x34) [0x99] ∧
    reads [0xF7, 0x34, 0x99] (.iscZpX 0x34) [0x99] ∧
    reads [0xF8, 0x99] (.sed) [0x99] ∧
    reads [0xF9, 0x34, 0x12, 0x99] (.sbcAbsY 0x1234) [0x99] ∧
    reads [0xFA, 0x99] (.nopFA) [0x99] ∧
    reads [0xFB, 0x34, 0x12, 0x99] (.iscAbsY 0x1234) [0x99] ∧
    reads [0xFC, 0x34, 0x12, 0x99] (.nopAbsXFC 0x1234) [0x99] ∧
    reads [0xFD, 0x34, 0x12, 0x99] (.sbcAbsX 0x1234) [0x99] ∧
    reads [0xFE, 0x34, 0x12, 0x99] (.incAbsX 0x1234) [0x99] ∧
    reads [0xFF, 0x34, 0x12, 0x99] (.iscAbsX 0x1234) [0x99] := by decide +kernel

/-- The counts of R107. -/
theorem test_table_counts :
    (opcodeTable.filter OpcodeRow.documented).length = 151 ∧
    (opcodeTable.filter fun r => r.mnemonic = .JAM).length = 12 ∧
    (opcodeTable.filter fun r => r.mnemonic = .NOP).length = 28 := by decide +kernel

/-- JSR's word: the first two bytes decode, the third is left for execution (R310). -/
theorem test_decode_table_word :
    decodeTableWord 16 0x05A9 = some (.ldaImm 0x05) ∧ decodeTableWord 24 0x02FF6C = some (.jmpInd 0x02FF) ∧
      decodeTableWord 24 0x801020 = some (.jsr 0x10) ∧ decodeTableWord 8 0xEA = some .nop := by decide +kernel

/-! ## One step each -/

/-- A start state: registers, flags, PC and cells; the latch holds $80,
as after a reset to $8000, and the hooks answer 0, as the vectors have it. -/
def start (a x y sp : Byte) (p : Flags) (pc : Word) (cells : Memory) : State :=
  { State.reset with a := a, x := x, y := y, sp := sp, p := p, pc := pc, mem := cells, busLatch := 0x80, hookReads := [0, 0] }

/-- The state after one step. -/
def after (s : State) : State :=
  match step s with
  | .next t => t
  | .fault _ | .refused _ => s

/-- The registers after the step, and the accesses it made, are these. -/
def passes (s : State) (q : Regs) (accesses : List BusAccess) : Bool :=
  match step s with
  | .next t => decide (t.regs = q) && decide (t.trace = accesses)
  | .fault _ | .refused _ => false

/-- The step answers exactly this state. -/
def answers (o : Host.Outcome State Fault Refusal) (t : State) : Bool :=
  match o with
  | .next u => decide (u = t)
  | .fault _ | .refused _ => false

theorem eq_of_answers {o : Host.Outcome State Fault Refusal} {t : State} (h : answers o t = true) : o = .next t := by
  unfold answers at h
  split at h
  · rw [of_decide_eq_true h]
  · cases h
  · cases h

/-- 95_test_vectors.md: A12 (ASL); A13 (INC); A14 (JMP); A15 (JMP); A2 (LDA); A9 (LDA); A3 (LDX); A10
(STA); M12 (STA). -/
theorem test_addressing_and_bus_1 :
    passes (start 0x00 0x01 0x00 0xFD ⟨false, false, true, false, false, false⟩ 0x8000
      [(0x0300, 0x81), (0x8000, 0x1E), (0x8001, 0xFF), (0x8002, 0x02), (0xFFFB, 0x90), (0xFFFD, 0x80), (0xFFFF, 0xA0)])
      ⟨0x00, 0x01, 0x00, 0xFD, 0x8003, ⟨true, false, true, false, false, false⟩, false⟩
      [rd 0x8000 0x1E, rd 0x8001 0xFF, rd 0x8002 0x02, rd 0x0200 0x00, rd 0x0300 0x81, wr 0x0300 0x81, wr 0x0300 0x02] ∧
    passes (start 0x00 0x02 0x00 0xFD ⟨false, false, true, false, false, false⟩ 0x8000
      [(0x0001, 0x7F), (0x8000, 0xFE), (0x8001, 0xFF), (0x8002, 0xFF), (0xFFFB, 0x90), (0xFFFD, 0x80), (0xFFFF, 0xA0)])
      ⟨0x00, 0x02, 0x00, 0xFD, 0x8003, ⟨false, false, true, false, false, true⟩, false⟩
      [rd 0x8000 0xFE, rd 0x8001 0xFF, rd 0x8002 0xFF, rd 0xFF01 0x00, rd 0x0001 0x7F, wr 0x0001 0x7F, wr 0x0001 0x80] ∧
    passes (start 0x00 0x00 0x00 0xFD ⟨false, false, true, false, false, false⟩ 0x8000
      [(0x0200, 0x12), (0x02FF, 0x34), (0x0300, 0x56), (0x8000, 0x6C), (0x8001, 0xFF), (0x8002, 0x02), (0xFFFB, 0x90), (0xFFFD, 0x80), (0xFFFF, 0xA0)])
      ⟨0x00, 0x00, 0x00, 0xFD, 0x1234, ⟨false, false, true, false, false, false⟩, false⟩
      [rd 0x8000 0x6C, rd 0x8001 0xFF, rd 0x8002 0x02, rd 0x02FF 0x34, rd 0x0200 0x12] ∧
    passes (start 0x00 0x00 0x00 0xFD ⟨false, false, true, false, false, false⟩ 0x8000
      [(0x0300, 0x78), (0x0301, 0x56), (0x8000, 0x6C), (0x8002, 0x03), (0xFFFB, 0x90), (0xFFFD, 0x80), (0xFFFF, 0xA0)])
      ⟨0x00, 0x00, 0x00, 0xFD, 0x5678, ⟨false, false, true, false, false, false⟩, false⟩
      [rd 0x8000 0x6C, rd 0x8001 0x00, rd 0x8002 0x03, rd 0x0300 0x78, rd 0x0301 0x56] ∧
    passes (start 0x00 0x02 0x00 0xFD ⟨false, false, true, false, false, false⟩ 0x8000
      [(0x0001, 0x77), (0x8000, 0xB5), (0x8001, 0xFF), (0xFFFB, 0x90), (0xFFFD, 0x80), (0xFFFF, 0xA0)])
      ⟨0x77, 0x02, 0x00, 0xFD, 0x8002, ⟨false, false, true, false, false, false⟩, false⟩
      [rd 0x8000 0xB5, rd 0x8001 0xFF, rd 0x00FF 0x00, rd 0x0001 0x77] ∧
    passes (start 0x00 0x00 0x04 0xFD ⟨false, false, true, false, false, false⟩ 0x8000
      [(0x0000, 0x03), (0x0304, 0x66), (0x8000, 0xB1), (0x8001, 0xFF), (0xFFFB, 0x90), (0xFFFD, 0x80), (0xFFFF, 0xA0)])
      ⟨0x66, 0x00, 0x04, 0xFD, 0x8002, ⟨false, false, true, false, false, false⟩, false⟩
      [rd 0x8000 0xB1, rd 0x8001 0xFF, rd 0x00FF 0x00, rd 0x0000 0x03, rd 0x0304 0x66] ∧
    passes (start 0x00 0x00 0x20 0xFD ⟨false, false, true, false, false, false⟩ 0x8000
      [(0x0010, 0x55), (0x8000, 0xB6), (0x8001, 0xF0), (0xFFFB, 0x90), (0xFFFD, 0x80), (0xFFFF, 0xA0)])
      ⟨0x00, 0x55, 0x20, 0xFD, 0x8002, ⟨false, false, true, false, false, false⟩, false⟩
      [rd 0x8000 0xB6, rd 0x8001 0xF0, rd 0x00F0 0x00, rd 0x0010 0x55] ∧
    passes (start 0x42 0x20 0x00 0xFD ⟨false, false, true, false, false, false⟩ 0x8000
      [(0x8000, 0x9D), (0x8001, 0xF0), (0x8002, 0x02), (0xFFFB, 0x90), (0xFFFD, 0x80), (0xFFFF, 0xA0)])
      ⟨0x42, 0x20, 0x00, 0xFD, 0x8003, ⟨false, false, true, false, false, false⟩, false⟩
      [rd 0x8000 0x9D, rd 0x8001 0xF0, rd 0x8002 0x02, rd 0x0210 0x00, wr 0x0310 0x42] ∧
    passes (after (start 0x0F 0x00 0x00 0xFD ⟨false, false, true, false, false, false⟩ 0x8000
      [(0x8000, 0x8D), (0x8001, 0x18), (0x8002, 0x40), (0x8003, 0xAD), (0x8004, 0x18), (0x8005, 0x40), (0xFFFB, 0x90), (0xFFFD, 0x80), (0xFFFF, 0xA0)]))
      ⟨0x40, 0x00, 0x00, 0xFD, 0x8006, ⟨false, false, true, false, false, false⟩, false⟩
      [rd 0x8003 0xAD, rd 0x8004 0x18, rd 0x8005 0x40, rd 0x4018 0x40] := by decide +kernel

/-- 95_test_vectors.md: L2 (ADC); L4 (ADC); L16 (BIT); L13 (CMP); L14 (CPX); L20 (DEC); L22 (EOR); T4
(LDY); L19 (LSR). -/
theorem test_transfers_and_alu_1 :
    passes (start 0xFF 0x00 0x00 0xFD ⟨false, false, true, false, false, false⟩ 0x8000
      [(0x8000, 0x69), (0x8001, 0x01), (0xFFFB, 0x90), (0xFFFD, 0x80), (0xFFFF, 0xA0)])
      ⟨0x00, 0x00, 0x00, 0xFD, 0x8002, ⟨true, true, true, false, false, false⟩, false⟩
      [rd 0x8000 0x69, rd 0x8001 0x01] ∧
    passes (start 0x00 0x00 0x00 0xFD ⟨true, false, true, false, false, false⟩ 0x8000
      [(0x8000, 0x69), (0xFFFB, 0x90), (0xFFFD, 0x80), (0xFFFF, 0xA0)])
      ⟨0x01, 0x00, 0x00, 0xFD, 0x8002, ⟨false, false, true, false, false, false⟩, false⟩
      [rd 0x8000 0x69, rd 0x8001 0x00] ∧
    passes (start 0x00 0x00 0x00 0xFD ⟨false, false, true, false, true, false⟩ 0x8000
      [(0x0010, 0x80), (0x8000, 0x24), (0x8001, 0x10), (0xFFFB, 0x90), (0xFFFD, 0x80), (0xFFFF, 0xA0)])
      ⟨0x00, 0x00, 0x00, 0xFD, 0x8002, ⟨false, true, true, false, false, true⟩, false⟩
      [rd 0x8000 0x24, rd 0x8001 0x10, rd 0x0010 0x80] ∧
    passes (start 0x00 0x00 0x00 0xFD ⟨false, false, true, false, false, false⟩ 0x8000
      [(0x8000, 0xC9), (0x8001, 0x01), (0xFFFB, 0x90), (0xFFFD, 0x80), (0xFFFF, 0xA0)])
      ⟨0x00, 0x00, 0x00, 0xFD, 0x8002, ⟨false, false, true, false, false, true⟩, false⟩
      [rd 0x8000 0xC9, rd 0x8001 0x01] ∧
    passes (start 0x00 0xFF 0x00 0xFD ⟨false, false, true, false, false, false⟩ 0x8000
      [(0x8000, 0xE0), (0x8001, 0x80), (0xFFFB, 0x90), (0xFFFD, 0x80), (0xFFFF, 0xA0)])
      ⟨0x00, 0xFF, 0x00, 0xFD, 0x8002, ⟨true, false, true, false, false, false⟩, false⟩
      [rd 0x8000 0xE0, rd 0x8001 0x80] ∧
    passes (start 0x00 0x11 0x00 0xFD ⟨false, false, true, false, false, false⟩ 0x8000
      [(0x8000, 0xD6), (0x8001, 0xFF), (0xFFFB, 0x90), (0xFFFD, 0x80), (0xFFFF, 0xA0)])
      ⟨0x00, 0x11, 0x00, 0xFD, 0x8002, ⟨false, false, true, false, false, true⟩, false⟩
      [rd 0x8000 0xD6, rd 0x8001 0xFF, rd 0x00FF 0x00, rd 0x0010 0x00, wr 0x0010 0x00, wr 0x0010 0xFF] ∧
    passes (start 0xFF 0x00 0x00 0xFD ⟨false, false, true, false, false, false⟩ 0x8000
      [(0x0011, 0x02), (0x0200, 0xFF), (0x8000, 0x51), (0x8001, 0x10), (0xFFFB, 0x90), (0xFFFD, 0x80), (0xFFFF, 0xA0)])
      ⟨0x00, 0x00, 0x00, 0xFD, 0x8002, ⟨false, true, true, false, false, false⟩, false⟩
      [rd 0x8000 0x51, rd 0x8001 0x10, rd 0x0010 0x00, rd 0x0011 0x02, rd 0x0200 0xFF] ∧
    passes (start 0x00 0x01 0x00 0xFD ⟨false, false, true, false, false, false⟩ 0x8000
      [(0x0201, 0xFE), (0x8000, 0xBC), (0x8002, 0x02), (0xFFFB, 0x90), (0xFFFD, 0x80), (0xFFFF, 0xA0)])
      ⟨0x00, 0x01, 0xFE, 0xFD, 0x8003, ⟨false, false, true, false, false, true⟩, false⟩
      [rd 0x8000 0xBC, rd 0x8001 0x00, rd 0x8002 0x02, rd 0x0201 0xFE] ∧
    passes (start 0x00 0x00 0x00 0xFD ⟨false, false, true, false, false, false⟩ 0x8000
      [(0x0200, 0x01), (0x8000, 0x4E), (0x8002, 0x02), (0xFFFB, 0x90), (0xFFFD, 0x80), (0xFFFF, 0xA0)])
      ⟨0x00, 0x00, 0x00, 0xFD, 0x8003, ⟨true, true, true, false, false, false⟩, false⟩
      [rd 0x8000 0x4E, rd 0x8001 0x00, rd 0x8002 0x02, rd 0x0200 0x01, wr 0x0200 0x01, wr 0x0200 0x00] := by decide +kernel

/-- 95_test_vectors.md: L17 (ROL); L18 (ROR); L6 (SBC); L8 (SBC); T5 (STX); T6 (STY); T9 (TSX); T8
(TXS). -/
theorem test_transfers_and_alu_2 :
    passes (start 0x00 0x00 0x00 0xFD ⟨true, false, true, false, false, false⟩ 0x8000
      [(0x0010, 0x80), (0x8000, 0x26), (0x8001, 0x10), (0xFFFB, 0x90), (0xFFFD, 0x80), (0xFFFF, 0xA0)])
      ⟨0x00, 0x00, 0x00, 0xFD, 0x8002, ⟨true, false, true, false, false, false⟩, false⟩
      [rd 0x8000 0x26, rd 0x8001 0x10, rd 0x0010 0x80, wr 0x0010 0x80, wr 0x0010 0x01] ∧
    passes (start 0x00 0x01 0x00 0xFD ⟨true, false, true, false, false, false⟩ 0x8000
      [(0x0010, 0x01), (0x8000, 0x76), (0x8001, 0x0F), (0xFFFB, 0x90), (0xFFFD, 0x80), (0xFFFF, 0xA0)])
      ⟨0x00, 0x01, 0x00, 0xFD, 0x8002, ⟨true, false, true, false, false, true⟩, false⟩
      [rd 0x8000 0x76, rd 0x8001 0x0F, rd 0x000F 0x00, rd 0x0010 0x01, wr 0x0010 0x01, wr 0x0010 0x80] ∧
    passes (start 0x00 0x00 0x00 0xFD ⟨true, false, true, false, false, false⟩ 0x8000
      [(0x8000, 0xE9), (0x8001, 0x01), (0xFFFB, 0x90), (0xFFFD, 0x80), (0xFFFF, 0xA0)])
      ⟨0xFF, 0x00, 0x00, 0xFD, 0x8002, ⟨false, false, true, false, false, true⟩, false⟩
      [rd 0x8000 0xE9, rd 0x8001 0x01] ∧
    passes (start 0x7F 0x00 0x00 0xFD ⟨true, false, true, false, false, false⟩ 0x8000
      [(0x8000, 0xE9), (0x8001, 0xFF), (0xFFFB, 0x90), (0xFFFD, 0x80), (0xFFFF, 0xA0)])
      ⟨0x80, 0x00, 0x00, 0xFD, 0x8002, ⟨false, false, true, false, true, true⟩, false⟩
      [rd 0x8000 0xE9, rd 0x8001 0xFF] ∧
    passes (start 0x00 0xAA 0x02 0xFD ⟨false, false, true, false, false, false⟩ 0x8000
      [(0x8000, 0x96), (0x8001, 0xFF), (0xFFFB, 0x90), (0xFFFD, 0x80), (0xFFFF, 0xA0)])
      ⟨0x00, 0xAA, 0x02, 0xFD, 0x8002, ⟨false, false, true, false, false, false⟩, false⟩
      [rd 0x8000 0x96, rd 0x8001 0xFF, rd 0x00FF 0x00, wr 0x0001 0xAA] ∧
    passes (start 0x00 0x01 0x00 0xFD ⟨false, false, true, false, false, false⟩ 0x8000
      [(0x8000, 0x94), (0x8001, 0x80), (0xFFFB, 0x90), (0xFFFD, 0x80), (0xFFFF, 0xA0)])
      ⟨0x00, 0x01, 0x00, 0xFD, 0x8002, ⟨false, false, true, false, false, false⟩, false⟩
      [rd 0x8000 0x94, rd 0x8001 0x80, rd 0x0080 0x00, wr 0x0081 0x00] ∧
    passes (start 0x00 0x00 0x00 0x80 ⟨false, false, true, false, false, false⟩ 0x8000
      [(0x8000, 0xBA), (0xFFFB, 0x90), (0xFFFD, 0x80), (0xFFFF, 0xA0)])
      ⟨0x00, 0x80, 0x00, 0x80, 0x8001, ⟨false, false, true, false, false, true⟩, false⟩
      [rd 0x8000 0xBA, rd 0x8001 0x00] ∧
    passes (start 0x00 0x00 0x00 0xFD ⟨false, false, true, false, false, true⟩ 0x8000
      [(0x8000, 0x9A), (0xFFFB, 0x90), (0xFFFD, 0x80), (0xFFFF, 0xA0)])
      ⟨0x00, 0x00, 0x00, 0x00, 0x8001, ⟨false, false, true, false, false, true⟩, false⟩
      [rd 0x8000 0x9A, rd 0x8001 0x00] := by decide +kernel

/-- 95_test_vectors.md: B2 (BCC); B1 (BEQ); B4 (BMI); B3 (BNE); B5 (BPL); B10 (BRK); I16 (BRK); B7
(JSR); K1 (PHA). -/
theorem test_stack_and_control_1 :
    passes (start 0x00 0x00 0x00 0xFD ⟨false, false, true, false, false, false⟩ 0xFFF0
      [(0xFFF0, 0x90), (0xFFF1, 0x20), (0xFFFB, 0x90), (0xFFFC, 0xF0), (0xFFFD, 0xFF), (0xFFFF, 0xA0)])
      ⟨0x00, 0x00, 0x00, 0xFD, 0x0012, ⟨false, false, true, false, false, false⟩, false⟩
      [rd 0xFFF0 0x90, rd 0xFFF1 0x20, rd 0xFFF2 0x00, rd 0xFF12 0x00] ∧
    passes (start 0x00 0x00 0x00 0xFD ⟨false, false, true, false, false, false⟩ 0x8000
      [(0x8000, 0xF0), (0x8001, 0x02), (0xFFFB, 0x90), (0xFFFD, 0x80), (0xFFFF, 0xA0)])
      ⟨0x00, 0x00, 0x00, 0xFD, 0x8002, ⟨false, false, true, false, false, false⟩, false⟩
      [rd 0x8000 0xF0, rd 0x8001 0x02] ∧
    passes (start 0x00 0x00 0x00 0xFD ⟨false, false, true, false, false, true⟩ 0x8000
      [(0x8000, 0x30), (0xFFFB, 0x90), (0xFFFD, 0x80), (0xFFFF, 0xA0)])
      ⟨0x00, 0x00, 0x00, 0xFD, 0x8002, ⟨false, false, true, false, false, true⟩, false⟩
      [rd 0x8000 0x30, rd 0x8001 0x00, rd 0x8002 0x00] ∧
    passes (start 0x00 0x00 0x00 0xFD ⟨false, false, true, false, false, false⟩ 0x8000
      [(0x8000, 0xD0), (0x8001, 0xFE), (0xFFFB, 0x90), (0xFFFD, 0x80), (0xFFFF, 0xA0)])
      ⟨0x00, 0x00, 0x00, 0xFD, 0x8000, ⟨false, false, true, false, false, false⟩, false⟩
      [rd 0x8000 0xD0, rd 0x8001 0xFE, rd 0x8002 0x00] ∧
    passes (start 0x00 0x00 0x00 0xFD ⟨false, false, true, false, false, false⟩ 0x8080
      [(0x8080, 0x10), (0x8081, 0x7F), (0xFFFB, 0x90), (0xFFFC, 0x80), (0xFFFD, 0x80), (0xFFFF, 0xA0)])
      ⟨0x00, 0x00, 0x00, 0xFD, 0x8101, ⟨false, false, true, false, false, false⟩, false⟩
      [rd 0x8080 0x10, rd 0x8081 0x7F, rd 0x8082 0x00, rd 0x8001 0x00] ∧
    passes (start 0x00 0x00 0x00 0xFD ⟨false, false, false, false, false, false⟩ 0x8000
      [(0x8001, 0xFF), (0xFFFB, 0x90), (0xFFFD, 0x80), (0xFFFF, 0xA0)])
      ⟨0x00, 0x00, 0x00, 0xFA, 0xA000, ⟨false, false, true, false, false, false⟩, false⟩
      [rd 0x8000 0x00, rd 0x8001 0xFF, wr 0x01FD 0x80, wr 0x01FC 0x02, wr 0x01FB 0x30, rd 0xFFFE 0x00, rd 0xFFFF 0xA0] ∧
    passes (start 0x00 0x00 0x00 0xFD ⟨false, false, true, false, false, false⟩ 0x8000
      [(0xFFFB, 0x90), (0xFFFD, 0x80), (0xFFFF, 0xA0)])
      ⟨0x00, 0x00, 0x00, 0xFA, 0xA000, ⟨false, false, true, false, false, false⟩, false⟩
      [rd 0x8000 0x00, rd 0x8001 0x00, wr 0x01FD 0x80, wr 0x01FC 0x02, wr 0x01FB 0x34, rd 0xFFFE 0x00, rd 0xFFFF 0xA0] ∧
    passes (start 0x00 0x00 0x00 0xFD ⟨false, false, true, false, false, false⟩ 0x8000
      [(0x8000, 0x20), (0x8001, 0x10), (0x8002, 0x80), (0xFFFB, 0x90), (0xFFFD, 0x80), (0xFFFF, 0xA0)])
      ⟨0x00, 0x00, 0x00, 0xFB, 0x8010, ⟨false, false, true, false, false, false⟩, false⟩
      [rd 0x8000 0x20, rd 0x8001 0x10, rd 0x01FD 0x00, wr 0x01FD 0x80, wr 0x01FC 0x02, rd 0x8002 0x80] ∧
    passes (start 0x11 0x00 0x00 0x00 ⟨false, false, true, false, false, false⟩ 0x8000
      [(0x8000, 0x48), (0xFFFB, 0x90), (0xFFFD, 0x80), (0xFFFF, 0xA0)])
      ⟨0x11, 0x00, 0x00, 0xFF, 0x8001, ⟨false, false, true, false, false, false⟩, false⟩
      [rd 0x8000 0x48, rd 0x8001 0x00, wr 0x0100 0x11] := by decide +kernel

/-- 95_test_vectors.md: K3 (PHP); K2 (PLA); K5 (PLP); B9 (RTI); B8 (RTS). -/
theorem test_stack_and_control_2 :
    passes (start 0x00 0x00 0x00 0xFD ⟨true, false, true, true, false, true⟩ 0x8000
      [(0x8000, 0x08), (0xFFFB, 0x90), (0xFFFD, 0x80), (0xFFFF, 0xA0)])
      ⟨0x00, 0x00, 0x00, 0xFC, 0x8001, ⟨true, false, true, true, false, true⟩, false⟩
      [rd 0x8000 0x08, rd 0x8001 0x00, wr 0x01FD 0xBD] ∧
    passes (start 0x00 0x00 0x00 0xFF ⟨false, false, true, false, false, false⟩ 0x8000
      [(0x8000, 0x68), (0xFFFB, 0x90), (0xFFFD, 0x80), (0xFFFF, 0xA0)])
      ⟨0x00, 0x00, 0x00, 0x00, 0x8001, ⟨false, true, true, false, false, false⟩, false⟩
      [rd 0x8000 0x68, rd 0x8001 0x00, rd 0x01FF 0x00, rd 0x0100 0x00] ∧
    passes (start 0x00 0x00 0x00 0xFC ⟨false, false, true, false, false, false⟩ 0x8000
      [(0x01FD, 0xCB), (0x8000, 0x28), (0xFFFB, 0x90), (0xFFFD, 0x80), (0xFFFF, 0xA0)])
      ⟨0x00, 0x00, 0x00, 0xFD, 0x8001, ⟨true, true, false, true, true, true⟩, false⟩
      [rd 0x8000 0x28, rd 0x8001 0x00, rd 0x01FC 0x00, rd 0x01FD 0xCB] ∧
    passes (start 0x00 0x00 0x00 0xFC ⟨false, false, true, false, false, false⟩ 0x8000
      [(0x01FD, 0xFF), (0x01FE, 0x34), (0x01FF, 0x12), (0x8000, 0x40), (0xFFFB, 0x90), (0xFFFD, 0x80), (0xFFFF, 0xA0)])
      ⟨0x00, 0x00, 0x00, 0xFF, 0x1234, ⟨true, true, true, true, true, true⟩, false⟩
      [rd 0x8000 0x40, rd 0x8001 0x00, rd 0x01FC 0x00, rd 0x01FD 0xFF, rd 0x01FE 0x34, rd 0x01FF 0x12] ∧
    passes (start 0x00 0x00 0x00 0xFD ⟨false, false, true, false, false, false⟩ 0x8000
      [(0x01FE, 0xFF), (0x01FF, 0xFF), (0x8000, 0x60), (0xFFFB, 0x90), (0xFFFD, 0x80), (0xFFFF, 0xA0)])
      ⟨0x00, 0x00, 0x00, 0xFF, 0x0000, ⟨false, false, true, false, false, false⟩, false⟩
      [rd 0x8000 0x60, rd 0x8001 0x00, rd 0x01FD 0x00, rd 0x01FE 0xFF, rd 0x01FF 0xFF, rd 0xFFFF 0xA0] := by decide +kernel

/-- 95_test_vectors.md: U10 (ALR); U9 (ANC); U11 (ARR); U7 (DCP); U8 (ISC); U18 (LAS); U6 (LAX); U19
(NOP); U20 (NOP). -/
theorem test_undocumented_1 :
    passes (start 0x01 0x00 0x00 0xFD ⟨false, false, true, false, false, false⟩ 0x8000
      [(0x8000, 0x4B), (0x8001, 0x01), (0xFFFB, 0x90), (0xFFFD, 0x80), (0xFFFF, 0xA0)])
      ⟨0x00, 0x00, 0x00, 0xFD, 0x8002, ⟨true, true, true, false, false, false⟩, false⟩
      [rd 0x8000 0x4B, rd 0x8001 0x01] ∧
    passes (start 0xFF 0x00 0x00 0xFD ⟨true, false, true, false, false, false⟩ 0x8000
      [(0x8000, 0x2B), (0x8001, 0x7F), (0xFFFB, 0x90), (0xFFFD, 0x80), (0xFFFF, 0xA0)])
      ⟨0x7F, 0x00, 0x00, 0xFD, 0x8002, ⟨false, false, true, false, false, false⟩, false⟩
      [rd 0x8000 0x2B, rd 0x8001 0x7F] ∧
    passes (start 0x40 0x00 0x00 0xFD ⟨false, false, true, false, false, false⟩ 0x8000
      [(0x8000, 0x6B), (0x8001, 0xFF), (0xFFFB, 0x90), (0xFFFD, 0x80), (0xFFFF, 0xA0)])
      ⟨0x20, 0x00, 0x00, 0xFD, 0x8002, ⟨false, false, true, false, true, false⟩, false⟩
      [rd 0x8000 0x6B, rd 0x8001 0xFF] ∧
    passes (start 0x00 0x00 0x00 0xFD ⟨false, false, true, false, false, false⟩ 0x8000
      [(0x8000, 0xDB), (0x8002, 0x02), (0xFFFB, 0x90), (0xFFFD, 0x80), (0xFFFF, 0xA0)])
      ⟨0x00, 0x00, 0x00, 0xFD, 0x8003, ⟨false, false, true, false, false, false⟩, false⟩
      [rd 0x8000 0xDB, rd 0x8001 0x00, rd 0x8002 0x02, rd 0x0200 0x00, rd 0x0200 0x00, wr 0x0200 0x00, wr 0x0200 0xFF] ∧
    passes (start 0x00 0x00 0x00 0xFD ⟨true, false, true, false, false, false⟩ 0x8000
      [(0x0200, 0xFF), (0x8000, 0xFF), (0x8002, 0x02), (0xFFFB, 0x90), (0xFFFD, 0x80), (0xFFFF, 0xA0)])
      ⟨0x00, 0x00, 0x00, 0xFD, 0x8003, ⟨true, true, true, false, false, false⟩, false⟩
      [rd 0x8000 0xFF, rd 0x8001 0x00, rd 0x8002 0x02, rd 0x0200 0xFF, rd 0x0200 0xFF, wr 0x0200 0xFF, wr 0x0200 0x00] ∧
    passes (start 0x00 0x00 0x01 0xFD ⟨false, false, true, false, false, false⟩ 0x8000
      [(0x0200, 0x0F), (0x8000, 0xBB), (0x8001, 0xFF), (0x8002, 0x01), (0xFFFB, 0x90), (0xFFFD, 0x80), (0xFFFF, 0xA0)])
      ⟨0x0D, 0x0D, 0x01, 0x0D, 0x8003, ⟨false, false, true, false, false, false⟩, false⟩
      [rd 0x8000 0xBB, rd 0x8001 0xFF, rd 0x8002 0x01, rd 0x0100 0x00, rd 0x0200 0x0F] ∧
    passes (start 0x00 0x00 0xFF 0xFD ⟨false, false, true, false, false, false⟩ 0x8000
      [(0x0040, 0x80), (0x0041, 0x02), (0x8000, 0xB3), (0x8001, 0x40), (0xFFFB, 0x90), (0xFFFD, 0x80), (0xFFFF, 0xA0)])
      ⟨0x00, 0x00, 0xFF, 0xFD, 0x8002, ⟨false, true, true, false, false, false⟩, false⟩
      [rd 0x8000 0xB3, rd 0x8001 0x40, rd 0x0040 0x80, rd 0x0041 0x02, rd 0x027F 0x00, rd 0x037F 0x00] ∧
    passes (start 0x00 0x01 0x00 0xFD ⟨false, false, true, false, false, false⟩ 0x8000
      [(0x8000, 0xFC), (0x8001, 0xFF), (0x8002, 0x20), (0xFFFB, 0x90), (0xFFFD, 0x80), (0xFFFF, 0xA0)])
      ⟨0x00, 0x01, 0x00, 0xFD, 0x8003, ⟨false, false, true, false, false, false⟩, false⟩
      [rd 0x8000 0xFC, rd 0x8001 0xFF, rd 0x8002 0x20, rd 0x2000 0x00, rd 0x2100 0x00] ∧
    passes (start 0x00 0x00 0x00 0xFD ⟨false, false, true, false, false, false⟩ 0x8000
      [(0x8000, 0x80), (0x8001, 0xFF), (0xFFFB, 0x90), (0xFFFD, 0x80), (0xFFFF, 0xA0)])
      ⟨0x00, 0x00, 0x00, 0xFD, 0x8002, ⟨false, false, true, false, false, false⟩, false⟩
      [rd 0x8000 0x80, rd 0x8001 0xFF] := by decide +kernel

/-- 95_test_vectors.md: U2 (RLA); U4 (RRA); U5 (SAX); U15 (SBX); U16 (SHA); U17 (SHY); U1 (SLO); U3
(SRE). -/
theorem test_undocumented_2 :
    passes (start 0xFF 0x00 0x01 0xFD ⟨false, false, true, false, false, false⟩ 0x8000
      [(0x0040, 0xFF), (0x0041, 0x02), (0x0300, 0x80), (0x8000, 0x33), (0x8001, 0x40), (0xFFFB, 0x90), (0xFFFD, 0x80), (0xFFFF, 0xA0)])
      ⟨0x00, 0x00, 0x01, 0xFD, 0x8002, ⟨true, true, true, false, false, false⟩, false⟩
      [rd 0x8000 0x33, rd 0x8001 0x40, rd 0x0040 0xFF, rd 0x0041 0x02, rd 0x0200 0x00, rd 0x0300 0x80, wr 0x0300 0x80, wr 0x0300 0x00] ∧
    passes (start 0x7F 0x00 0x00 0xFD ⟨false, false, true, false, false, false⟩ 0x8000
      [(0x0200, 0x02), (0x8000, 0x7B), (0x8002, 0x02), (0xFFFB, 0x90), (0xFFFD, 0x80), (0xFFFF, 0xA0)])
      ⟨0x80, 0x00, 0x00, 0xFD, 0x8003, ⟨false, false, true, false, true, true⟩, false⟩
      [rd 0x8000 0x7B, rd 0x8001 0x00, rd 0x8002 0x02, rd 0x0200 0x02, rd 0x0200 0x02, wr 0x0200 0x02, wr 0x0200 0x01] ∧
    passes (start 0x0F 0xFC 0x01 0xFD ⟨false, false, true, false, false, false⟩ 0x8000
      [(0x8000, 0x97), (0x8001, 0x10), (0xFFFB, 0x90), (0xFFFD, 0x80), (0xFFFF, 0xA0)])
      ⟨0x0F, 0xFC, 0x01, 0xFD, 0x8002, ⟨false, false, true, false, false, false⟩, false⟩
      [rd 0x8000 0x97, rd 0x8001 0x10, rd 0x0010 0x00, wr 0x0011 0x0C] ∧
    passes (start 0x01 0xFF 0x00 0xFD ⟨false, false, true, false, false, false⟩ 0x8000
      [(0x8000, 0xCB), (0x8001, 0x02), (0xFFFB, 0x90), (0xFFFD, 0x80), (0xFFFF, 0xA0)])
      ⟨0x01, 0xFF, 0x00, 0xFD, 0x8002, ⟨false, false, true, false, false, true⟩, false⟩
      [rd 0x8000 0xCB, rd 0x8001 0x02] ∧
    passes (start 0xFF 0xFF 0x10 0xFD ⟨false, false, true, false, false, false⟩ 0x8000
      [(0x0040, 0xF8), (0x0041, 0x02), (0x8000, 0x93), (0x8001, 0x40), (0xFFFB, 0x90), (0xFFFD, 0x80), (0xFFFF, 0xA0)])
      ⟨0xFF, 0xFF, 0x10, 0xFD, 0x8002, ⟨false, false, true, false, false, false⟩, false⟩
      [rd 0x8000 0x93, rd 0x8001 0x40, rd 0x0040 0xF8, rd 0x0041 0x02, rd 0x0208 0x00, wr 0x0308 0x03] ∧
    passes (start 0x00 0x10 0x01 0xFD ⟨false, false, true, false, false, false⟩ 0x8000
      [(0x8000, 0x9C), (0x8001, 0xF8), (0x8002, 0x02), (0xFFFB, 0x90), (0xFFFD, 0x80), (0xFFFF, 0xA0)])
      ⟨0x00, 0x10, 0x01, 0xFD, 0x8003, ⟨false, false, true, false, false, false⟩, false⟩
      [rd 0x8000 0x9C, rd 0x8001 0xF8, rd 0x8002 0x02, rd 0x0208 0x00, wr 0x0108 0x01] ∧
    passes (start 0x01 0x01 0x00 0xFD ⟨false, false, true, false, false, false⟩ 0x8000
      [(0x0300, 0x40), (0x8000, 0x1F), (0x8001, 0xFF), (0x8002, 0x02), (0xFFFB, 0x90), (0xFFFD, 0x80), (0xFFFF, 0xA0)])
      ⟨0x81, 0x01, 0x00, 0xFD, 0x8003, ⟨false, false, true, false, false, true⟩, false⟩
      [rd 0x8000 0x1F, rd 0x8001 0xFF, rd 0x8002 0x02, rd 0x0200 0x00, rd 0x0300 0x40, wr 0x0300 0x40, wr 0x0300 0x80] ∧
    passes (start 0x00 0x02 0x00 0xFD ⟨false, false, true, false, false, false⟩ 0x8000
      [(0x0013, 0x03), (0x0300, 0x02), (0x8000, 0x43), (0x8001, 0x10), (0xFFFB, 0x90), (0xFFFD, 0x80), (0xFFFF, 0xA0)])
      ⟨0x01, 0x02, 0x00, 0xFD, 0x8002, ⟨false, false, true, false, false, false⟩, false⟩
      [rd 0x8000 0x43, rd 0x8001 0x10, rd 0x0010 0x00, rd 0x0012 0x00, rd 0x0013 0x03, rd 0x0300 0x02, wr 0x0300 0x02, wr 0x0300 0x01] := by decide +kernel

/-- By hand from the rules: TAX (from R206); TAY (from R207); TXA (from R208); TYA (from R209); INX
(from R241); INY (from R242); DEX (from R243); DEY (from R244); CLC (from R274). -/
theorem test_by_hand_1 :
    passes (start 0x80 0x00 0x00 0xFD ⟨false, true, true, false, false, false⟩ 0x8000
      [(0x8000, 0xAA)])
      ⟨0x80, 0x80, 0x00, 0xFD, 0x8001, ⟨false, false, true, false, false, true⟩, false⟩
      [rd 0x8000 0xAA, rd 0x8001 0x00] ∧
    passes (start 0x00 0x00 0x05 0xFD ⟨false, false, true, false, false, true⟩ 0x8000
      [(0x8000, 0xA8)])
      ⟨0x00, 0x00, 0x00, 0xFD, 0x8001, ⟨false, true, true, false, false, false⟩, false⟩
      [rd 0x8000 0xA8, rd 0x8001 0x00] ∧
    passes (start 0x80 0x7F 0x00 0xFD ⟨false, false, true, false, false, true⟩ 0x8000
      [(0x8000, 0x8A)])
      ⟨0x7F, 0x7F, 0x00, 0xFD, 0x8001, ⟨false, false, true, false, false, false⟩, false⟩
      [rd 0x8000 0x8A, rd 0x8001 0x00] ∧
    passes (start 0x00 0x00 0xFF 0xFD ⟨false, false, true, false, false, false⟩ 0x8000
      [(0x8000, 0x98)])
      ⟨0xFF, 0x00, 0xFF, 0xFD, 0x8001, ⟨false, false, true, false, false, true⟩, false⟩
      [rd 0x8000 0x98, rd 0x8001 0x00] ∧
    passes (start 0x00 0xFF 0x00 0xFD ⟨true, false, true, false, false, true⟩ 0x8000
      [(0x8000, 0xE8)])
      ⟨0x00, 0x00, 0x00, 0xFD, 0x8001, ⟨true, true, true, false, false, false⟩, false⟩
      [rd 0x8000 0xE8, rd 0x8001 0x00] ∧
    passes (start 0x00 0x00 0x7F 0xFD ⟨false, false, true, false, true, false⟩ 0x8000
      [(0x8000, 0xC8)])
      ⟨0x00, 0x00, 0x80, 0xFD, 0x8001, ⟨false, false, true, false, true, true⟩, false⟩
      [rd 0x8000 0xC8, rd 0x8001 0x00] ∧
    passes (start 0x00 0x00 0x00 0xFD ⟨false, true, true, false, false, false⟩ 0x8000
      [(0x8000, 0xCA)])
      ⟨0x00, 0xFF, 0x00, 0xFD, 0x8001, ⟨false, false, true, false, false, true⟩, false⟩
      [rd 0x8000 0xCA, rd 0x8001 0x00] ∧
    passes (start 0x00 0x00 0x01 0xFD ⟨false, false, true, false, false, false⟩ 0x8000
      [(0x8000, 0x88)])
      ⟨0x00, 0x00, 0x00, 0xFD, 0x8001, ⟨false, true, true, false, false, false⟩, false⟩
      [rd 0x8000 0x88, rd 0x8001 0x00] ∧
    passes (start 0x00 0x00 0x00 0xFD ⟨true, false, true, false, true, false⟩ 0x8000
      [(0x8000, 0x18)])
      ⟨0x00, 0x00, 0x00, 0xFD, 0x8001, ⟨false, false, true, false, true, false⟩, false⟩
      [rd 0x8000 0x18, rd 0x8001 0x00] := by decide +kernel

/-- By hand from the rules: SEC (from R275); CLI (from R276); SEI (from R277); CLD (from R278); SED
(from R279); CLV (from R280); AND (from R232, its example); ORA (from R233); CPY (from R237). -/
theorem test_by_hand_2 :
    passes (start 0x00 0x00 0x00 0xFD ⟨false, false, true, false, false, false⟩ 0x8000
      [(0x8000, 0x38)])
      ⟨0x00, 0x00, 0x00, 0xFD, 0x8001, ⟨true, false, true, false, false, false⟩, false⟩
      [rd 0x8000 0x38, rd 0x8001 0x00] ∧
    passes (start 0x00 0x00 0x00 0xFD ⟨false, false, true, false, false, false⟩ 0x8000
      [(0x8000, 0x58)])
      ⟨0x00, 0x00, 0x00, 0xFD, 0x8001, ⟨false, false, false, false, false, false⟩, false⟩
      [rd 0x8000 0x58, rd 0x8001 0x00] ∧
    passes (start 0x00 0x00 0x00 0xFD ⟨false, false, false, false, false, false⟩ 0x8000
      [(0x8000, 0x78)])
      ⟨0x00, 0x00, 0x00, 0xFD, 0x8001, ⟨false, false, true, false, false, false⟩, false⟩
      [rd 0x8000 0x78, rd 0x8001 0x00] ∧
    passes (start 0x00 0x00 0x00 0xFD ⟨false, false, true, true, false, true⟩ 0x8000
      [(0x8000, 0xD8)])
      ⟨0x00, 0x00, 0x00, 0xFD, 0x8001, ⟨false, false, true, false, false, true⟩, false⟩
      [rd 0x8000 0xD8, rd 0x8001 0x00] ∧
    passes (start 0x00 0x00 0x00 0xFD ⟨false, false, true, false, false, false⟩ 0x8000
      [(0x8000, 0xF8)])
      ⟨0x00, 0x00, 0x00, 0xFD, 0x8001, ⟨false, false, true, true, false, false⟩, false⟩
      [rd 0x8000 0xF8, rd 0x8001 0x00] ∧
    passes (start 0x00 0x00 0x00 0xFD ⟨true, false, true, false, true, false⟩ 0x8000
      [(0x8000, 0xB8)])
      ⟨0x00, 0x00, 0x00, 0xFD, 0x8001, ⟨true, false, true, false, false, false⟩, false⟩
      [rd 0x8000 0xB8, rd 0x8001 0x00] ∧
    passes (start 0xF0 0x00 0x00 0xFD ⟨false, false, true, false, false, true⟩ 0x8000
      [(0x8000, 0x29), (0x8001, 0x0F)])
      ⟨0x00, 0x00, 0x00, 0xFD, 0x8002, ⟨false, true, true, false, false, false⟩, false⟩
      [rd 0x8000 0x29, rd 0x8001 0x0F] ∧
    passes (start 0x01 0x00 0x00 0xFD ⟨false, false, true, false, false, false⟩ 0x8000
      [(0x0010, 0x80), (0x8000, 0x05), (0x8001, 0x10)])
      ⟨0x81, 0x00, 0x00, 0xFD, 0x8002, ⟨false, false, true, false, false, true⟩, false⟩
      [rd 0x8000 0x05, rd 0x8001 0x10, rd 0x0010 0x80] ∧
    passes (start 0x00 0x00 0x10 0xFD ⟨false, false, true, false, false, true⟩ 0x8000
      [(0x0010, 0x20), (0x8000, 0xC4), (0x8001, 0x10)])
      ⟨0x00, 0x00, 0x10, 0xFD, 0x8002, ⟨false, false, true, false, false, true⟩, false⟩
      [rd 0x8000 0xC4, rd 0x8001 0x10, rd 0x0010 0x20] := by decide +kernel

/-- By hand from the rules: BVC (from R303: not taken); BVS (from R304: taken in the page); BCS (from
R306: taken across a page); USBC (from R366); SHX (from R369: no page crossing, value AND base high
plus one); TAS (from R371: the page of the byte written where the index crosses); JAM (from R375). -/
theorem test_by_hand_3 :
    passes (start 0x00 0x00 0x00 0xFD ⟨false, false, true, false, true, false⟩ 0x8000
      [(0x8000, 0x50), (0x8001, 0x10)])
      ⟨0x00, 0x00, 0x00, 0xFD, 0x8002, ⟨false, false, true, false, true, false⟩, false⟩
      [rd 0x8000 0x50, rd 0x8001 0x10] ∧
    passes (start 0x00 0x00 0x00 0xFD ⟨false, false, true, false, true, false⟩ 0x8000
      [(0x8000, 0x70), (0x8001, 0x10)])
      ⟨0x00, 0x00, 0x00, 0xFD, 0x8012, ⟨false, false, true, false, true, false⟩, false⟩
      [rd 0x8000 0x70, rd 0x8001 0x10, rd 0x8002 0x00] ∧
    passes (start 0x00 0x00 0x00 0xFD ⟨true, false, true, false, false, false⟩ 0x8000
      [(0x8000, 0xB0), (0x8001, 0x80)])
      ⟨0x00, 0x00, 0x00, 0xFD, 0x7F82, ⟨true, false, true, false, false, false⟩, false⟩
      [rd 0x8000 0xB0, rd 0x8001 0x80, rd 0x8002 0x00, rd 0x8082 0x00] ∧
    passes (start 0x00 0x00 0x00 0xFD ⟨true, false, true, false, false, false⟩ 0x8000
      [(0x8000, 0xEB), (0x8001, 0x01)])
      ⟨0xFF, 0x00, 0x00, 0xFD, 0x8002, ⟨false, false, true, false, false, true⟩, false⟩
      [rd 0x8000 0xEB, rd 0x8001 0x01] ∧
    passes (start 0x00 0x07 0x01 0xFD ⟨false, false, true, false, false, false⟩ 0x8000
      [(0x8000, 0x9E), (0x8001, 0x10), (0x8002, 0x02)])
      ⟨0x00, 0x07, 0x01, 0xFD, 0x8003, ⟨false, false, true, false, false, false⟩, false⟩
      [rd 0x8000 0x9E, rd 0x8001 0x10, rd 0x8002 0x02, rd 0x0211 0x00, wr 0x0211 0x03] ∧
    passes (start 0xFF 0x0F 0x01 0xFD ⟨false, false, true, false, false, false⟩ 0x8000
      [(0x8000, 0x9B), (0x8001, 0xFF), (0x8002, 0x02)])
      ⟨0xFF, 0x0F, 0x01, 0x0F, 0x8003, ⟨false, false, true, false, false, false⟩, false⟩
      [rd 0x8000 0x9B, rd 0x8001 0xFF, rd 0x8002 0x02, rd 0x0200 0x00, wr 0x0300 0x03] ∧
    passes (start 0x00 0x00 0x00 0xFD ⟨false, false, true, false, false, false⟩ 0x8000
      [(0x8000, 0x02)])
      ⟨0x00, 0x00, 0x00, 0xFD, 0x8001, ⟨false, false, true, false, false, false⟩, true⟩
      [rd 0x8000 0x02, rd 0x8001 0x00] := by decide +kernel

/-- R363, R364: with A = $FF the constant does not matter, whatever it is. -/
theorem test_unstable_immediates (magic : Byte) :
    aneValue magic 0xFF 0xF0 0x3C = 0x30 ∧ lxaValue magic 0xFF 0x80 = 0x80 := by
  revert magic
  decide +kernel

/-- 95_test_vectors.md U12 and U14, for the constant they assume, $EE. -/
theorem test_unstable_vectors : aneValue 0xEE 0x00 0xFF 0xFF = 0xEE ∧ lxaValue 0xEE 0x00 0x0F = 0x0E := by decide

/-! ## Whole steps of the host's form, interrupts and the environment -/

/-- An instruction placed for the first step after reset runs (log entry 11). -/
theorem test_placed_instruction_runs :
    (after (State.reset.withFetchWord 16 0x05A9)).a = 0x05 ∧
    (after (State.reset.withFetchWord 24 0x123420)).pc = 0x1234 ∧
    (after (State.reset.withFetchWord 8 0x02)).halted = true := by decide +kernel

/-- R403, R407: an NMI edge latched by the driver is taken at the next boundary, through $FFFA. -/
theorem test_nmi_entry :
    let t := after ((start 0 0 0 0xFD ⟨false, false, true, false, false, false⟩ 0x8000
      [(0x8000, 0xEA), (0xFFFB, 0x90)]).setNmi true)
    t.pc = 0x9000 ∧ t.sp = 0xFA ∧ t.lines.nmiPending = false ∧ t.cycles = 7 := by decide +kernel

/-- R404: IRQ is masked while I is set and taken once it is clear. -/
theorem test_irq_mask :
    (after ((start 0 0 0 0xFD ⟨false, false, true, false, false, false⟩ 0x8000
      [(0x8000, 0xEA), (0xFFFF, 0xA0)]).setIrq true)).pc = 0x8001 ∧
    (after ((start 0 0 0 0xFD ⟨false, false, false, false, false, false⟩ 0x8000
      [(0x8000, 0xEA), (0xFFFF, 0xA0)]).setIrq true)).pc = 0xA000 := by decide +kernel

/-- R409: an NMI edge in the tick of BRK's third access takes BRK to the NMI vector, with B pushed set. -/
theorem test_brk_hijack :
    let t := after { start 0 0 0 0xFD ⟨false, false, true, false, false, false⟩ 0x8000
      [(0xFFFB, 0x90), (0xFFFF, 0xA0)] with ticks := [[], [], [.setNmi true]] }
    t.pc = 0x9000 ∧ t.lines.nmiPending = false ∧ Memory.read t.mem 0x1FB = 0x34 := by decide +kernel

/-- R310, corner case: a JSR at $01FB with S = $FD has its high byte at $01FD, where the first push writes
$01, so PC becomes $0110 and not $8010. -/
theorem test_jsr_reads_the_pushed_byte :
    let t := after (start 0 0 0 0xFD ⟨false, false, true, false, false, false⟩ 0x01FB
      [(0x1FB, 0x20), (0x1FC, 0x10), (0x1FD, 0x80)])
    t.pc = 0x0110 ∧ Memory.read t.mem 0x1FD = 0x01 ∧ Memory.read t.mem 0x1FC = 0xFD := by decide +kernel

/-- R71, R81: a read of a PPU register takes the hook's answer and reports the call. -/
theorem test_hook_read :
    let t := after { start 0 0 0 0xFD ⟨false, false, true, false, false, false⟩ 0x8000
      [(0x8000, 0xAD), (0x8001, 0x0A), (0x8002, 0x20)] with hookReads := [0x77] }
    t.a = 0x77 ∧ t.hookCalls = [⟨.ppu, 2, .read, 0x77⟩] := by decide +kernel

/-! ## The assembler (R110 to R112) -/

theorem test_asm_immediate : assembleLine "LDA #$05" 0 = some [0xA9, 0x05] := by decide +kernel
theorem test_asm_branch : assembleLine "bne $8000" 0x8005 = some [0xD0, 0xF9] := by decide +kernel
theorem test_asm_indirect : assembleLine "JMP ($02FF)" 0 = some [0x6C, 0xFF, 0x02] := by decide +kernel
theorem test_asm_accumulator : assembleLine "ROR A" 0 = some [0x6A] := by decide +kernel
theorem test_asm_undocumented : assembleLine "LAX $10,Y" 0 = some [0xB7, 0x10] := by decide +kernel

/-! ## Witnesses: states and operands that meet the hypotheses of the obligations -/

/-- A state of the statements about storage: 8 KiB of PRG-RAM, a byte in each store, nothing due. -/
def sample : State :=
  { State.reset with
    prgRam := .k8
    pc := 0x8000
    mem := [(0x0010, 0x34), (0x0011, 0x12), (0x01FE, 0x07), (0x6000, 0x5A), (0x8000, 0xA9), (0x8001, 0x05),
      (0x8002, 0xEA), (0xFFFD, 0x80)]
    hookReads := [0x77] }

theorem witness_DecodeOfEncodeGivesTheInstruction : (Instr.jmpInd 0x02FF).WellFormed := trivial

theorem witness_EncodeOfDecodeGivesTheBytes : decode [0x6C, 0xFF, 0x02, 0x99] = .ok (.jmpInd 0x02FF, [0x99]) := rfl

theorem witness_StepRunsTheDecodedInstruction :
    sample.lines.resetPending = false ∧ sample.halted = false ∧ sample.lines.nmiPending = false ∧
    (sample.lines.irqLine = false ∨ sample.p.i = true) ∧ sample.stored sample.pc = some 0xA9 ∧
    sample.stored (sample.pc + 1) = some 0x05 ∧ sample.stored (sample.pc + 2) = some 0xEA ∧
    decode [0xA9, 0x05, 0xEA] = .ok (.ldaImm 0x05, [0xEA]) := by
  refine ⟨rfl, rfl, rfl, Or.inl rfl, ?_, ?_, ?_, rfl⟩ <;> decide +kernel

/-- Both ends of every range of the region table, with no PRG-RAM and 32 KiB of PRG-ROM. -/
theorem witness_RegionTable :
    State.reset.region 0x0000 = .ram 0 ∧ State.reset.region 0x1FFF = .ram 0x7FF ∧
    State.reset.region 0x2000 = .ppu 0 ∧ State.reset.region 0x3FFF = .ppu 7 ∧
    State.reset.region 0x4000 = .apuIo 0 ∧ State.reset.region 0x4017 = .apuIo 0x17 ∧
    State.reset.region 0x4018 = .unmapped ∧ State.reset.region 0x5FFF = .unmapped ∧
    State.reset.region 0x6000 = .unmapped ∧ State.reset.region 0x7FFF = .unmapped ∧
    State.reset.region 0x8000 = .prgRom 0 ∧ State.reset.region 0xFFFF = .prgRom 0x7FFF := by decide +kernel

/-- The ends of the cartridge ranges for 2 KiB of PRG-RAM and 16 KiB of PRG-ROM. -/
theorem witness_RegionTable_cartridge :
    { State.reset with prgRam := .k2 }.region 0x6000 = .prgRam 0 ∧
    { State.reset with prgRam := .k2 }.region 0x7FFF = .prgRam 0x7FF ∧
    { State.reset with prgRom := .k16 }.region 0xBFFF = .prgRom 0x3FFF ∧
    { State.reset with prgRom := .k16 }.region 0xC000 = .prgRom 0 := by decide +kernel

theorem witness_ReadsReturnTheOwnersByte :
    sample.stored 0x6000 = some 0x5A ∧ (sample.region 0x3FFF).hook = some (.ppu, 7) ∧
    sample.hookReads = 0x77 :: [] ∧ State.reset.hookReads = [] ∧ sample.region 0x5FFF = .unmapped := by
  refine ⟨?_, ?_, rfl, rfl, ?_⟩ <;> decide +kernel

theorem witness_WritesReachOnlyTheOwnersCell :
    sample.StorageOk ∧ sample.region 0x0810 = .ram 0x10 ∧ sample.region 0x6000 = .prgRam 0 ∧
    (∀ k, sample.region 0x8000 ≠ .ram k ∧ sample.region 0x8000 ≠ .prgRam k) := by
  refine ⟨by decide +kernel, by decide +kernel, by decide +kernel, fun k => ?_⟩
  have h : sample.region 0x8000 = .prgRom 0 := by decide +kernel
  constructor <;> rw [h] <;> exact fun h => by cases h

/-- Both ends of each range of the mirrors. -/
theorem witness_MirrorsAreOneLocation :
    sample.StorageOk ∧ (0x07FF : Word).toNat % 0x800 = (0x1FFF : Word).toNat % 0x800 ∧
    0 < ramBytes ({ sample with prgRam := .k2 } : State).prgRam ∧
    ((0x6000 : Word).toNat - 0x6000) % ramBytes .k2 = ((0x7800 : Word).toNat - 0x6000) % ramBytes .k2 ∧
    ((0x67FF : Word).toNat - 0x6000) % ramBytes .k2 = ((0x7FFF : Word).toNat - 0x6000) % ramBytes .k2 ∧
    ({ sample with prgRam := .k2 } : State).StorageOk ∧
    (sample.region 0x3FF8).hook = some (.ppu, 0) ∧ (sample.region 0x4017).hook = some (.apuIo, 0x17) := by
  decide +kernel

theorem witness_StackWrapsInPageOne : { sample with sp := 0x00 }.StorageOk ∧ { sample with sp := 0xFF }.StorageOk := by
  decide +kernel

/-- The low byte at the end of a page. -/
theorem witness_WordReadsTakeTheLowByteFirst :
    sample.stored 0x01FF = some 0x00 ∧ sample.stored (0x01FF + 1) = some 0x00 ∧
    sample.stored (cat (hi 0x01FF) (lo 0x01FF + 1)) = some 0x00 := by decide +kernel

theorem witness_EffectiveAddresses :
    (resolve (.absX 0x02FF) { sample with x := 0x01 }).indexed = true ∧
    (resolve (.absX 0x02FF) { sample with x := 0x01 }).crossed = true ∧
    (resolve (.zp 0x10) sample).indexed = false := by decide +kernel

theorem witness_LoadsTakeTheOperand :
    (.ldaAbsX 0x34 : Instr).mnemonic = .LDA ∧
    (.ldxAbsY 0x34 : Instr).mnemonic = .LDX ∧
    (.ldyAbsX 0x34 : Instr).mnemonic = .LDY ∧
    (.laxAbsY 0x34 : Instr).mnemonic = .LAX ∧
    (.lasAbsY 0x34 : Instr).mnemonic = .LAS := by
  decide +kernel

theorem witness_StoresWriteTheRegister :
    sample.StorageOk ∧
    (.staAbsX 0x34 : Instr).mnemonic = .STA ∧
    (.stxZpY 0x34 : Instr).mnemonic = .STX ∧
    (.styZpX 0x34 : Instr).mnemonic = .STY ∧
    (.saxZpY 0x34 : Instr).mnemonic = .SAX := by
  decide +kernel

theorem witness_TransfersCopyARegister :
    (.tax : Instr).mnemonic = .TAX ∧
    (.tay : Instr).mnemonic = .TAY ∧
    (.txa : Instr).mnemonic = .TXA ∧
    (.tya : Instr).mnemonic = .TYA ∧
    (.tsx : Instr).mnemonic = .TSX ∧
    (.txs : Instr).mnemonic = .TXS := by
  decide +kernel

theorem witness_AddAndSubtractAreExact :
    (.adcAbsX 0x34 : Instr).mnemonic = .ADC ∧
    (.sbcAbsX 0x34 : Instr).mnemonic = .SBC ∧
    (.usbcImm 0x34 : Instr).mnemonic = .USBC := by
  decide +kernel

theorem witness_LogicCombinesWithTheAccumulator :
    (.andAbsX 0x34 : Instr).mnemonic = .AND ∧
    (.oraAbsX 0x34 : Instr).mnemonic = .ORA ∧
    (.eorAbsX 0x34 : Instr).mnemonic = .EOR := by
  decide +kernel

theorem witness_ComparesWriteOnlyFlags :
    (.cmpAbsX 0x34 : Instr).mnemonic = .CMP ∧
    (.cpxAbs 0x34 : Instr).mnemonic = .CPX ∧
    (.cpyAbs 0x34 : Instr).mnemonic = .CPY ∧
    (.bitAbs 0x34 : Instr).mnemonic = .BIT := by
  decide +kernel

theorem witness_MemoryModifyWritesTheResult :
    sample.StorageOk ∧
    (.incAbsX 0x34 : Instr).mnemonic = .INC ∧
    (.incAbsX 0x34 : Instr).operand = .mem (.absX 0x34) ∧
    (.decAbsX 0x34 : Instr).mnemonic = .DEC ∧
    (.decAbsX 0x34 : Instr).operand = .mem (.absX 0x34) ∧
    (.aslAbsX 0x34 : Instr).mnemonic = .ASL ∧
    (.aslAbsX 0x34 : Instr).operand = .mem (.absX 0x34) ∧
    (.lsrAbsX 0x34 : Instr).mnemonic = .LSR ∧
    (.lsrAbsX 0x34 : Instr).operand = .mem (.absX 0x34) ∧
    (.rolAbsX 0x34 : Instr).mnemonic = .ROL ∧
    (.rolAbsX 0x34 : Instr).operand = .mem (.absX 0x34) ∧
    (.rorAbsX 0x34 : Instr).mnemonic = .ROR ∧
    (.rorAbsX 0x34 : Instr).operand = .mem (.absX 0x34) := by
  decide +kernel

theorem witness_AccumulatorShifts :
    (.aslA : Instr).format = .accumulator ∧ (.aslA : Instr).mnemonic = .ASL ∧
    (.lsrA : Instr).format = .accumulator ∧ (.lsrA : Instr).mnemonic = .LSR ∧
    (.rolA : Instr).format = .accumulator ∧ (.rolA : Instr).mnemonic = .ROL ∧
    (.rorA : Instr).format = .accumulator ∧ (.rorA : Instr).mnemonic = .ROR := by decide +kernel

theorem witness_IndexStepsWrap :
    (.inx : Instr).mnemonic = .INX ∧
    (.iny : Instr).mnemonic = .INY ∧
    (.dex : Instr).mnemonic = .DEX ∧
    (.dey : Instr).mnemonic = .DEY := by
  decide +kernel

theorem witness_PushInstructions :
    sample.StorageOk ∧
    (.pha : Instr).mnemonic = .PHA ∧
    (.php : Instr).mnemonic = .PHP := by
  decide +kernel

theorem witness_PullInstructions :
    (.pla : Instr).mnemonic = .PLA ∧
    (.plp : Instr).mnemonic = .PLP := by
  decide +kernel

theorem witness_FlagInstructions :
    (.clc : Instr).mnemonic = .CLC ∧
    (.sec : Instr).mnemonic = .SEC ∧
    (.cli : Instr).mnemonic = .CLI ∧
    (.sei : Instr).mnemonic = .SEI ∧
    (.cld : Instr).mnemonic = .CLD ∧
    (.sed : Instr).mnemonic = .SED ∧
    (.clv : Instr).mnemonic = .CLV := by
  decide +kernel

theorem witness_NopsOnlyAccess :
    sample.StorageOk ∧
    (.nopAbsXFC 0x34 : Instr).mnemonic = .NOP ∧
    (.nopAbsXFC 0x34 : Instr).operand = .mem (.absX 0x34) ∧
    (.nop : Instr).mnemonic = .NOP ∧ (.nop : Instr).format = .implied := by
  decide +kernel

/-- Each branch, and for each flag a state in which its branch is taken and one in which it is not. -/
theorem witness_BranchesMoveOnlyPc :
    (.bpl 0x80 : Instr).mnemonic = .BPL ∧ (.bmi 0x80 : Instr).mnemonic = .BMI ∧
    (.bvc 0x80 : Instr).mnemonic = .BVC ∧ (.bvs 0x80 : Instr).mnemonic = .BVS ∧
    (.bcc 0x80 : Instr).mnemonic = .BCC ∧ (.bcs 0x80 : Instr).mnemonic = .BCS ∧
    (.bne 0x80 : Instr).mnemonic = .BNE ∧ (.beq 0x80 : Instr).mnemonic = .BEQ ∧
    (sample.p.n = false ∧ sample.p.v = false ∧ sample.p.c = false ∧ sample.p.z = false) ∧
    (let q : State := { sample with p := ⟨true, true, true, true, true, true⟩ }
     q.p.n = true ∧ q.p.v = true ∧ q.p.c = true ∧ q.p.z = true) := by decide +kernel

theorem witness_JumpsLoadPc :
    sample.stored 0x0010 = some 0x34 ∧ sample.stored (cat (hi 0x0010) (lo 0x0010 + 1)) = some 0x12 := by
  decide +kernel

/-- A PC apart from both stack bytes, one on the first and one on the second. -/
theorem witness_JsrPushesTheReturnAddress :
    sample.StorageOk ∧ sample.stored sample.pc = some 0xA9 ∧
    sample.aliases (cat 1 sample.sp) sample.pc = false ∧ sample.aliases (cat 1 (sample.sp - 1)) sample.pc = false ∧
    { sample with pc := 0x01FD }.pc = cat 1 sample.sp ∧ { sample with pc := 0x01FC }.pc = cat 1 (sample.sp - 1) := by
  decide +kernel

/-- The status pulled from $01FE has I set, and none with I clear; the IRQ line is asserted. -/
theorem witness_RtiRestoresStatusAndPc :
    let t := (sample.setIrq true).returnFromInterrupt
    (sample.setIrq true).sp = 0xFD ∧ t.p.i = true ∧
    (let u := ({ sample with mem := [], lines := { sample.lines with irqLine := true } } : State).returnFromInterrupt
     u.p.i = false ∧ u.lines.irqLine = true ∧ u.lines.nmiPending = false ∧ u.lines.resetPending = false ∧
        u.halted = false) := by decide +kernel

theorem witness_BrkEntersThroughTheIrqVector :
    sample.StorageOk ∧ (linesAfter { sample with ticks := [[], [], [.setNmi true]] } 3).nmiPending = true ∧
    (linesAfter sample 3).nmiPending = false := by decide +kernel

theorem witness_CombinedModifyOperations :
    sample.StorageOk ∧
    (.sloAbsX 0x34 : Instr).mnemonic = .SLO ∧
    (.sloAbsX 0x34 : Instr).operand = .mem (.absX 0x34) ∧
    (.rlaAbsX 0x34 : Instr).mnemonic = .RLA ∧
    (.rlaAbsX 0x34 : Instr).operand = .mem (.absX 0x34) ∧
    (.sreAbsX 0x34 : Instr).mnemonic = .SRE ∧
    (.sreAbsX 0x34 : Instr).operand = .mem (.absX 0x34) ∧
    (.rraAbsX 0x34 : Instr).mnemonic = .RRA ∧
    (.rraAbsX 0x34 : Instr).operand = .mem (.absX 0x34) ∧
    (.dcpAbsX 0x34 : Instr).mnemonic = .DCP ∧
    (.dcpAbsX 0x34 : Instr).operand = .mem (.absX 0x34) ∧
    (.iscAbsX 0x34 : Instr).mnemonic = .ISC ∧
    (.iscAbsX 0x34 : Instr).operand = .mem (.absX 0x34) := by
  decide +kernel

theorem witness_ImmediateCombinedOperations :
    (.ancImm2B 0x34 : Instr).mnemonic = .ANC ∧
    (.alrImm 0x34 : Instr).mnemonic = .ALR ∧
    (.arrImm 0x34 : Instr).mnemonic = .ARR ∧
    (.sbxImm 0x34 : Instr).mnemonic = .SBX := by
  decide +kernel

theorem witness_UnstableImmediates :
    (.aneImm 0x34 : Instr).mnemonic = .ANE ∧ (.lxaImm 0x34 : Instr).mnemonic = .LXA ∧ sample.x = 0 ∧
    { sample with a := 0xFF }.a = 0xFF := by decide +kernel

theorem witness_UnstableStores :
    sample.StorageOk ∧
    (.shaAbsY 0x34 : Instr).mnemonic = .SHA ∧
    (.shxAbsY 0x34 : Instr).mnemonic = .SHX ∧
    (.shyAbsX 0x34 : Instr).mnemonic = .SHY ∧
    (.tasAbsY 0x34 : Instr).mnemonic = .TAS := by
  decide +kernel

theorem witness_JamHalts :
    (.jam02 : Instr).mnemonic = .JAM ∧ (.jam02 : Instr).format = .implied ∧
    { sample with halted := true }.halted = true ∧ sample.lines.resetPending = false ∧
    sample.assertReset.lines.resetPending = true := by decide +kernel

theorem witness_NmiIsTakenOncePerEdge :
    sample.lines.nmiLine = false ∧ (sample.setNmi true).lines.nmiLine = true ∧
    (sample.setNmi true).lines.resetPending = false ∧ (sample.setNmi true).halted = false ∧
    (sample.setNmi true).lines.nmiPending = true ∧ (sample.setNmi true).ticks = [] := by decide +kernel

/-- One state for each of the five events of a boundary. -/
theorem witness_BoundaryTakesEventsInOrder :
    sample.assertReset.boundary = .reset ∧ { sample with halted := true }.boundary = .halted ∧
    (sample.setNmi true).boundary = .nmi ∧
    (({ sample with p := { sample.p with i := false } } : State).setIrq true).boundary = .irq ∧
    (sample.setIrq true).boundary = .instruction := by decide +kernel

theorem witness_NmiAndIrqEntry :
    (sample.setNmi true).StorageOk ∧ (sample.setNmi true).lines.nmiPending = true ∧
    (let q := ({ sample with p := { sample.p with i := false } } : State).setIrq true
     q.StorageOk ∧ q.lines.resetPending = false ∧ q.halted = false ∧ q.lines.nmiPending = false ∧
        q.lines.irqLine = true ∧ q.p.i = false) := by decide +kernel

theorem witness_ResetStep : sample.assertReset.lines.resetPending = true := rfl

/-- A valid cartridge with bytes at both ends of its arrays, and an invalid one. -/
theorem witness_ConstructionChecksAndResets :
    ValidCartridge smokeCart ∧ ¬ ValidCartridge { smokeCart with prgRamSize := 1024 } ∧
    smokeCart.prgRomSize = some 16384 ∧ 2047 < smokeCart.prgRamSize ∧
    arrayByte smokeCart.prgRom 0 = 0xEA ∧ arrayByte smokeCart.prgRom 16383 = 0x00 ∧
    arrayByte smokeCart.prgRamInit 2047 = 0x5A ∧ arrayByte [(3, 0x11), (3, 0x22)] 3 = 0x22 := by
  refine ⟨⟨16384, rfl, Or.inl rfl, by decide, rfl, rfl, by decide, by decide⟩, ?_, rfl, by decide, rfl, rfl, rfl, rfl⟩
  rintro ⟨_, _, _, h, _⟩
  revert h
  decide

theorem witness_HaltedStepIsOneIdleCycle :
    { sample with halted := true }.halted = true ∧ { sample with halted := true }.lines.resetPending = false ∧
    { sample with halted := true }.lines.nmiLine = false ∧
    (after ({ sample with halted := true } : State).assertReset).halted = false ∧
    step ({ sample with halted := true } : State).assertReset =
      .next (after ({ sample with halted := true } : State).assertReset) :=
  ⟨rfl, rfl, rfl, by decide +kernel, eq_of_answers (by decide +kernel)⟩

theorem witness_StepKeepsTheInvariant : sample.Inv ∧ step sample = .next (after sample) :=
  ⟨by decide +kernel, eq_of_answers (by decide +kernel)⟩

theorem witness_ReachableStatesHaveTheInvariant : Reachable (after State.reset) := by
  refine .stepped State.reset _ (.constructed ⟨some 32768, [], 0, [], true, true⟩ smokePower [] [] _ ?_) ?_ <;>
    exact eq_of_answers (by decide +kernel)

theorem witness_RomNeverChanges : 0x8000 ≤ (0x8000 : Word).toNat ∧ step sample = .next (after sample) :=
  ⟨by decide, eq_of_answers (by decide +kernel)⟩

/-- A halted step, an entry, and an instruction that takes 8 cycles. -/
theorem witness_StepsTakeOneToEightCycles :
    { sample with halted := true }.boundary = .halted ∧ (sample.setNmi true).boundary = .nmi ∧
    { sample with mem := [(0x8000, 0x13)] }.boundary = .instruction ∧
    (after { sample with mem := [(0x8000, 0x13)] }).cycles = 8 ∧
    step { sample with mem := [(0x8000, 0x13)] } = .next (after { sample with mem := [(0x8000, 0x13)] }) :=
  ⟨rfl, rfl, rfl, by decide +kernel, eq_of_answers (by decide +kernel)⟩

theorem witness_InstructionStepsTakeTheTablesCycles :
    sample.boundary = .instruction ∧ step sample = .next (after sample) :=
  ⟨by decide, eq_of_answers (by decide +kernel)⟩

theorem witness_OnlyTheNamedInstructionsWriteAFlag :
    exec (.inx : Instr) sample = .next (State.loadX 0x01 (sample.read 0x8000)) := eq_of_answers (by decide +kernel)

theorem witness_OnlyTheNamedInstructionsWriteARegister :
    exec (.jam02 : Instr) sample = .next { sample.read 0x8000 with halted := true } ∧
    (.aslZp 0x10 : Instr).format ≠ .accumulator := ⟨rfl, by decide⟩

theorem witness_SignalsNeverAlterAnInstruction :
    (.inx : Instr).mnemonic ≠ .BRK ∧ exec (.inx : Instr) sample = .next (State.loadX 0x01 (sample.read 0x8000)) :=
  ⟨by decide, eq_of_answers (by decide +kernel)⟩

/-- An IRQ that is taken, a reset request, and an ordinary step. -/
theorem witness_InterruptCallsSetOneInput :
    (let q : State := { sample with p := { sample.p with i := false } }
     q.lines.resetPending = false ∧ q.halted = false ∧ q.lines.nmiPending = false ∧ q.p.i = false) ∧
    sample.ticks = [] ∧ step sample = .next (after sample) :=
  ⟨by decide, rfl, eq_of_answers (by decide +kernel)⟩

/-- Both ends of each window and the addresses beside them. -/
theorem witness_WindowAccessesCallTheirHook :
    (sample.read 0x1FFF).hookCalls = [] ∧ (sample.read 0x2000).hookCalls = [⟨.ppu, 0, .read, 0x77⟩] ∧
    (sample.write 0x3FFF 0x12).hookCalls.getLast? = some ⟨.ppu, 7, .write, 0x12⟩ ∧
    (sample.read 0x4000).hookCalls = [⟨.apuIo, 0, .read, 0x77⟩] ∧
    (sample.write 0x4017 0x34).hookCalls.getLast? = some ⟨.apuIo, 0x17, .write, 0x34⟩ ∧
    (sample.write 0x4018 0x34).hookCalls = [] := by decide +kernel

theorem witness_QueryReportsTheRegisters :
    (.jam02 : Instr).mnemonic = .JAM ∧ sample.regs = (sample.setIrq true).regs ∧
    sample.cyclesTotal = (sample.setIrq true).cyclesTotal := by decide +kernel

end Sys2Proof.Machine
end

/-! Proofs. What an instruction does by mnemonic and operand, which registers and flags it writes, the status
byte, the accesses of a step and the invariant of the reachable states. -/

namespace Sys2Proof.Machine

/-! ## What an instruction does, by its mnemonic and operand -/

/-- The effect of `M`: the operand byte itself (R133) or the byte the read class reads (R143). -/
def onRead (effect : Byte → State → State) : Operand → State → State
  | .immediate imm, s => effect imm s
  | .mem m, s => readClass m effect s
  | .implied, s | .accumulator, s | .target _, s | .targetLow _, s | .pointer _, s | .offset _, s => s

/-- The write class stores a byte of the registers (R144). -/
def onWrite (value : State → Byte) : Operand → State → State
  | .mem m, s => writeClass m (value s) s
  | .implied, s | .accumulator, s | .immediate _, s | .target _, s | .targetLow _, s | .pointer _, s
  | .offset _, s => s

/-- The unstable stores (R367); `before` is what the instruction does to S first (R371). -/
def onUnstable (value : State → Byte) (before : State → State) : Operand → State → State
  | .mem m, s => unstableStore m (value s) (before s)
  | .implied, s | .accumulator, s | .immediate _, s | .target _, s | .targetLow _, s | .pointer _, s
  | .offset _, s => s

/-- The read-modify-write class (R145). -/
def onModify (result : Bool → Byte → Byte) (effect : Byte → Byte → State → State) : Operand → State → State
  | .mem m, s => modifyClass m result effect s
  | .implied, s | .accumulator, s | .immediate _, s | .target _, s | .targetLow _, s | .pointer _, s
  | .offset _, s => s

/-- A shift or rotate: of A in the accumulator form, of a byte in memory else (R245 to R248). -/
def onShift (result : Bool → Byte → Byte) (flags : Byte → Byte → State → State) : Operand → State → State
  | .accumulator, s => impliedClass (fun s => State.accumulate (result s.p.c s.a) flags s) s
  | o, s => onModify result flags o s

/-- A conditional branch (R300). -/
def onOffset (cond : Flags → Bool) : Operand → State → State
  | .offset off, s => s.branch (cond s.p) off
  | .implied, s | .accumulator, s | .immediate _, s | .mem _, s | .target _, s | .targetLow _, s
  | .pointer _, s => s

/-- JMP by either of its operands (R309). -/
def onJump : Operand → State → State
  | .target addr, s => s.jump addr
  | .pointer ptr, s => s.jumpIndirect ptr
  | .implied, s | .accumulator, s | .immediate _, s | .mem _, s | .targetLow _, s | .offset _, s => s

/-- JSR by the low byte of its target (R310). -/
def onCall : Operand → State → State
  | .targetLow l, s => s.jsr l
  | .implied, s | .accumulator, s | .immediate _, s | .mem _, s | .target _, s | .pointer _, s
  | .offset _, s => s

/-- NOP: the implied form reads at PC, the others read their operand and discard it (R281, R373, R374). -/
def onNop : Operand → State → State
  | .implied, s => impliedClass id s
  | o, s => onRead State.discard o s

/-- What the instructions of a mnemonic do with an operand; the state itself for an operand they do not have. -/
def meaning : Mnemonic → Operand → State → State
  | .LDA => onRead State.loadA
  | .LDX => onRead State.loadX
  | .LDY => onRead State.loadY
  | .LAX => onRead State.lax
  | .LAS => onRead State.las
  | .ADC => onRead State.adc
  | .SBC | .USBC => onRead State.sbc
  | .AND => onRead State.and
  | .ORA => onRead State.ora
  | .EOR => onRead State.eor
  | .CMP => onRead State.cmp
  | .CPX => onRead State.cpx
  | .CPY => onRead State.cpy
  | .BIT => onRead State.bit
  | .ANC => onRead State.anc
  | .ALR => onRead State.alr
  | .ARR => onRead State.arr
  | .ANE => onRead State.ane
  | .LXA => onRead State.lxa
  | .SBX => onRead State.sbx
  | .NOP => onNop
  | .STA => onWrite State.a
  | .STX => onWrite State.x
  | .STY => onWrite State.y
  | .SAX => onWrite fun s => s.a &&& s.x
  | .SHA => onUnstable (fun s => s.a &&& s.x) id
  | .SHX => onUnstable State.x id
  | .SHY => onUnstable State.y id
  | .TAS => onUnstable (fun s => s.a &&& s.x) fun s => s.setSp (s.a &&& s.x)
  | .ASL => onShift (fun _ => shiftLeft) State.outHigh
  | .LSR => onShift (fun _ => shiftRight) State.outLow
  | .ROL => onShift rotateLeft State.outHigh
  | .ROR => onShift rotateRight State.outLow
  | .INC => onModify increment State.flagsNZ
  | .DEC => onModify decrement State.flagsNZ
  | .SLO => onModify (fun _ => shiftLeft) State.slo
  | .RLA => onModify rotateLeft State.rla
  | .SRE => onModify (fun _ => shiftRight) State.sre
  | .RRA => onModify rotateRight State.rra
  | .DCP => onModify decrement State.dcp
  | .ISC => onModify increment State.isc
  | .BPL => onOffset fun p => !p.n
  | .BMI => onOffset Flags.n
  | .BVC => onOffset fun p => !p.v
  | .BVS => onOffset Flags.v
  | .BCC => onOffset fun p => !p.c
  | .BCS => onOffset Flags.c
  | .BNE => onOffset fun p => !p.z
  | .BEQ => onOffset Flags.z
  | .JMP => onJump
  | .JSR => onCall
  | .BRK => fun _ => State.brk
  | .RTI => fun _ => State.returnFromInterrupt
  | .RTS => fun _ => impliedClass State.rts
  | .PHA => fun _ => impliedClass State.pha
  | .PHP => fun _ => impliedClass State.php
  | .PLA => fun _ => impliedClass State.pla
  | .PLP => fun _ => impliedClass State.plp
  | .TAX => fun _ => impliedClass fun s => State.loadX s.a s
  | .TAY => fun _ => impliedClass fun s => State.loadY s.a s
  | .TXA => fun _ => impliedClass fun s => State.loadA s.x s
  | .TYA => fun _ => impliedClass fun s => State.loadA s.y s
  | .TSX => fun _ => impliedClass fun s => State.loadX s.sp s
  | .TXS => fun _ => impliedClass fun s => s.setSp s.x
  | .INX => fun _ => impliedClass fun s => State.loadX (s.x + 1) s
  | .INY => fun _ => impliedClass fun s => State.loadY (s.y + 1) s
  | .DEX => fun _ => impliedClass fun s => State.loadX (s.x - 1) s
  | .DEY => fun _ => impliedClass fun s => State.loadY (s.y - 1) s
  | .CLC => fun _ => impliedClass fun s => s.setP { s.p with c := false }
  | .SEC => fun _ => impliedClass fun s => s.setP { s.p with c := true }
  | .CLI => fun _ => impliedClass fun s => s.setP { s.p with i := false }
  | .SEI => fun _ => impliedClass fun s => s.setP { s.p with i := true }
  | .CLD => fun _ => impliedClass fun s => s.setP { s.p with d := false }
  | .SED => fun _ => impliedClass fun s => s.setP { s.p with d := true }
  | .CLV => fun _ => impliedClass fun s => s.setP { s.p with v := false }
  | .JAM => fun _ => impliedClass fun s => { s with halted := true }

/-- Every instruction answers the next state its mnemonic gives for its operand (R400): a fact about all rows
of the opcode map is a fact about 77 mnemonics. -/
theorem exec_eq_meaning (i : Instr) (s : State) : exec i s = .next (meaning i.mnemonic i.operand s) := by
  cases i <;> rfl

/-- The one answer of an instruction (R400). -/
theorem eq_meaning_of_exec {i : Instr} {s t : State} (h : exec i s = .next t) :
    t = meaning i.mnemonic i.operand s := by
  rw [exec_eq_meaning] at h
  exact (Host.Outcome.next.inj h).symm

/-! ## Which mnemonics write a register or a flag -/

/-- The mnemonics R21 lists as writers of A. -/
def aWriters : List Mnemonic :=
  [.LDA, .PLA, .TXA, .TYA, .ADC, .SBC, .AND, .ORA, .EOR, .ASL, .LSR, .ROL, .ROR, .SLO, .RLA, .SRE, .RRA,
    .LAX, .ANC, .ALR, .ARR, .ANE, .LXA, .LAS, .USBC, .ISC]

/-- The mnemonics R22 lists as writers of X. -/
def xWriters : List Mnemonic := [.LDX, .TAX, .TSX, .INX, .DEX, .LAX, .LXA, .SBX, .LAS]

/-- The mnemonics R23 lists as writers of Y. -/
def yWriters : List Mnemonic := [.LDY, .TAY, .INY, .DEY]

/-- The mnemonics R24 lists as writers of S. -/
def spWriters : List Mnemonic := [.TXS, .TAS, .LAS, .PHA, .PHP, .PLA, .PLP, .JSR, .RTS, .BRK, .RTI]

/-- The mnemonics R27 lists as writers of C. -/
def cWriters : List Mnemonic :=
  [.ADC, .SBC, .CMP, .CPX, .CPY, .ASL, .LSR, .ROL, .ROR, .CLC, .SEC, .PLP, .RTI, .SLO, .RLA, .SRE, .RRA,
    .DCP, .ISC, .ANC, .ALR, .ARR, .SBX, .USBC]

/-- The mnemonics R29 lists as writers of I. -/
def iWriters : List Mnemonic := [.CLI, .SEI, .PLP, .RTI, .BRK]

/-- The mnemonics R30 lists as writers of D. -/
def dWriters : List Mnemonic := [.CLD, .SED, .PLP, .RTI]

/-- The mnemonics R33 lists as writers of V. -/
def vWriters : List Mnemonic := [.ADC, .SBC, .BIT, .CLV, .PLP, .RTI, .RRA, .ISC, .ARR, .USBC]

/-- The registers `q` with what a mnemonic is listed as a writer of, Z, N and PC taken from `q'`; only a jam
halts (R21 to R24, R27, R29, R30, R33, R38). -/
def listedFrom (mn : Mnemonic) (q q' : Regs) : Regs where
  a := if mn ∈ aWriters then q'.a else q.a
  x := if mn ∈ xWriters then q'.x else q.x
  y := if mn ∈ yWriters then q'.y else q.y
  sp := if mn ∈ spWriters then q'.sp else q.sp
  pc := q'.pc
  p :=
    { c := if mn ∈ cWriters then q'.p.c else q.p.c
      z := q'.p.z
      i := if mn ∈ iWriters then q'.p.i else q.p.i
      d := if mn ∈ dWriters then q'.p.d else q.p.d
      v := if mn ∈ vWriters then q'.p.v else q.p.v
      n := q'.p.n }
  halted := if mn = .JAM then true else q.halted

/-- From `q` to `q'` a mnemonic changes only what it is listed as a writer of. For one mnemonic the lists
decide which fields these are, so an effect meets this by `rfl`. -/
def WritesAsListed (mn : Mnemonic) (q q' : Regs) : Prop := q' = listedFrom mn q q'

/-- What moves PC alone writes nothing that is listed. -/
theorem WritesAsListed.of_pc {mn : Mnemonic} (h : mn ≠ .JAM) {q q' : Regs} (hq : q' = { q with pc := q'.pc }) :
    WritesAsListed mn q q' := by
  rw [hq]
  simp [WritesAsListed, listedFrom, h]

theorem WritesAsListed.of_regs {mn : Mnemonic} (h : mn ≠ .JAM) {q q' : Regs} (hq : q' = q) :
    WritesAsListed mn q q' := by
  subst hq
  exact .of_pc h rfl

theorem WritesAsListed.refl {mn : Mnemonic} (h : mn ≠ .JAM) (q : Regs) : WritesAsListed mn q q := .of_pc h rfl

/-! ### The access classes relate the registers as their effect does -/

section
variable {R : Regs → Regs → Prop}

theorem onRead_rel (hr : ∀ q, R q q) {effect : Byte → State → State}
    (he : ∀ v s, R s.regs (effect v s).regs) (o : Operand) (s : State) :
    R s.regs (onRead effect o s).regs := by
  cases o with
  | immediate imm => exact he imm s
  | mem m => exact loadState_regs m s ▸ he (loadValue m s) (loadState m s)
  | implied | accumulator | target | targetLow | pointer | offset => exact hr s.regs

theorem onModify_rel (hr : ∀ q, R q q) {result : Bool → Byte → Byte} {effect : Byte → Byte → State → State}
    (he : ∀ v r s, R s.regs (effect v r s).regs) (o : Operand) (s : State) :
    R s.regs (onModify result effect o s).regs := by
  cases o with
  | mem m => exact modifyState_regs m _ s ▸ he _ _ (modifyState m _ s)
  | implied | accumulator | immediate | target | targetLow | pointer | offset => exact hr s.regs

theorem onShift_rel (hr : ∀ q, R q q) {result : Bool → Byte → Byte} {flags : Byte → Byte → State → State}
    (he : ∀ v r s, R s.regs (flags v r s).regs) (ha : ∀ r s, R s.regs (State.accumulate r flags s).regs)
    (o : Operand) (s : State) : R s.regs (onShift result flags o s).regs := by
  cases o with
  | accumulator => exact ha _ (s.read s.pc)
  | implied | immediate | mem | target | targetLow | pointer | offset => exact onModify_rel hr he _ s

theorem onNop_regs (o : Operand) (s : State) : (onNop o s).regs = s.regs := by
  cases o with
  | implied => rfl
  | accumulator | immediate | mem | target | targetLow | pointer | offset =>
    exact onRead_rel (R := fun q q' => q' = q) (fun _ => rfl) (fun _ _ => rfl) _ s

theorem onWrite_regs (value : State → Byte) (o : Operand) (s : State) : (onWrite value o s).regs = s.regs := by
  cases o with
  | mem m => exact tailDummy_regs m s
  | implied | accumulator | immediate | target | targetLow | pointer | offset => rfl

theorem impliedClass_rel {effect : State → State} (he : ∀ s, R s.regs (effect s).regs) (s : State) :
    R s.regs (impliedClass effect s).regs := he (s.read s.pc)

theorem onCall_rel (hr : ∀ q, R q q) (hj : ∀ l s, R s.regs (State.jsr s l).regs) (o : Operand) (s : State) :
    R s.regs (onCall o s).regs := by
  cases o with
  | targetLow l => exact hj l s
  | implied | accumulator | immediate | mem | target | pointer | offset => exact hr s.regs

theorem onUnstable_rel (hr : ∀ q, R q q) {value : State → Byte} {before : State → State}
    (hb : ∀ s, R s.regs (before s).regs) (o : Operand) (s : State) :
    R s.regs (onUnstable value before o s).regs := by
  cases o with
  | mem m => exact (tailDummy_regs m (before s)).symm ▸ hb s
  | implied | accumulator | immediate | target | targetLow | pointer | offset => exact hr s.regs

end

theorem branch_regs (s : State) (cond : Bool) (off : Byte) :
    (s.branch cond off).regs = { s.regs with pc := (s.branch cond off).pc } := by
  unfold State.branch
  dsimp only
  split
  · split <;> rfl
  · rfl

theorem onOffset_regs (cond : Flags → Bool) (o : Operand) (s : State) :
    (onOffset cond o s).regs = { s.regs with pc := (onOffset cond o s).pc } := by
  cases o with
  | offset off => exact branch_regs s (cond s.p) off
  | implied | accumulator | immediate | mem | target | targetLow | pointer => rfl

theorem onJump_regs (o : Operand) (s : State) : (onJump o s).regs = { s.regs with pc := (onJump o s).pc } := by
  cases o <;> rfl

/-! ### What the control and stack sequences leave in the registers -/

theorem jsr_regs (s : State) (l : Byte) :
    (s.jsr l).regs = { s.regs with sp := s.sp - 1 - 1, pc := (s.jsr l).pc } := by
  simp [State.jsr, State.regs]

theorem rts_regs (s : State) : s.rts.regs = { s.regs with sp := s.sp + 1 + 1, pc := s.rts.pc } := by
  simp [State.rts, State.regs]

theorem returnFromInterrupt_regs (s : State) :
    s.returnFromInterrupt.regs = { s.regs with
      sp := s.sp + 1 + 1 + 1, pc := s.returnFromInterrupt.pc, p := s.returnFromInterrupt.p } := by
  simp [State.returnFromInterrupt, State.regs]

theorem interruptSequence_regs (s : State) (kind : InterruptKind) :
    (s.interruptSequence kind).regs = { s.regs with
      sp := s.sp - 1 - 1 - 1, pc := (s.interruptSequence kind).pc, p := { s.p with i := true } } := by
  cases kind <;>
    simp [State.interruptSequence, State.jumpVector, State.read16, State.regs, State.selectVector, State.beginEntry]

theorem brk_regs (s : State) :
    s.brk.regs = { s.regs with sp := s.sp - 1 - 1 - 1, pc := s.brk.pc, p := { s.p with i := true } } :=
  interruptSequence_regs s.fetch .brk

theorem pla_regs (s : State) :
    s.pla.regs = { s.regs with a := s.pla.a, sp := s.sp + 1, p := s.p.nz s.pla.a } := by
  simp [State.pla, State.regs]

theorem plp_regs (s : State) : s.plp.regs = { s.regs with sp := s.sp + 1, p := s.plp.p } := by
  simp [State.plp, State.regs]

/-- Every mnemonic changes only what it is listed as a writer of. -/
theorem meaning_writesAsListed (mn : Mnemonic) (o : Operand) (s : State) :
    WritesAsListed mn s.regs (meaning mn o s).regs := by
  cases mn with
  | LDA | LDX | LDY | LAX | LAS | ADC | SBC | USBC | AND | ORA | EOR | CMP | CPX | CPY | BIT | ANC | ALR | ARR
  | ANE | LXA | SBX =>
    exact onRead_rel (R := WritesAsListed _) (WritesAsListed.refl (by decide)) (fun _ _ => by rfl) o s
  | SHA | SHX | SHY | TAS =>
    exact onUnstable_rel (R := WritesAsListed _) (WritesAsListed.refl (by decide)) (fun _ => by rfl) o s
  | INC | DEC | SLO | RLA | SRE | RRA | DCP | ISC =>
    exact onModify_rel (R := WritesAsListed _) (WritesAsListed.refl (by decide)) (fun _ _ _ => by rfl) o s
  | ASL | LSR | ROL | ROR =>
    exact onShift_rel (R := WritesAsListed _) (WritesAsListed.refl (by decide)) (fun _ _ _ => by rfl)
      (fun _ _ => by rfl) o s
  | NOP => exact WritesAsListed.of_regs (by decide) (onNop_regs o s)
  | STA | STX | STY | SAX => exact WritesAsListed.of_regs (by decide) (onWrite_regs _ o s)
  | BPL | BMI | BVC | BVS | BCC | BCS | BNE | BEQ => exact WritesAsListed.of_pc (by decide) (onOffset_regs _ o s)
  | JMP => exact WritesAsListed.of_pc (by decide) (onJump_regs o s)
  | JSR =>
    exact onCall_rel (R := WritesAsListed _) (WritesAsListed.refl (by decide)) (fun l s => by rw [jsr_regs]; rfl) o s
  | BRK => rw [meaning, brk_regs]; rfl
  | RTI => rw [meaning, returnFromInterrupt_regs]; rfl
  | RTS => exact impliedClass_rel (R := WritesAsListed _) (fun s => by rw [rts_regs]; rfl) s
  | PLA => exact impliedClass_rel (R := WritesAsListed _) (fun s => by rw [pla_regs]; rfl) s
  | PLP => exact impliedClass_rel (R := WritesAsListed _) (fun s => by rw [plp_regs]; rfl) s
  | PHA | PHP | TAX | TAY | TXA | TYA | TSX | TXS | INX | INY | DEX | DEY | CLC | SEC | CLI | SEI | CLD | SED
  | CLV | JAM => exact impliedClass_rel (R := WritesAsListed _) (fun _ => by rfl) s

namespace WritesAsListed
variable {mn : Mnemonic} {q q' : Regs}

theorem a_eq (h : WritesAsListed mn q q') (hw : mn ∉ aWriters) : q'.a = q.a :=
  (congrArg Regs.a h).trans (if_neg hw)

theorem x_eq (h : WritesAsListed mn q q') (hw : mn ∉ xWriters) : q'.x = q.x :=
  (congrArg Regs.x h).trans (if_neg hw)

theorem y_eq (h : WritesAsListed mn q q') (hw : mn ∉ yWriters) : q'.y = q.y :=
  (congrArg Regs.y h).trans (if_neg hw)

theorem sp_eq (h : WritesAsListed mn q q') (hw : mn ∉ spWriters) : q'.sp = q.sp :=
  (congrArg Regs.sp h).trans (if_neg hw)

theorem c_eq (h : WritesAsListed mn q q') (hw : mn ∉ cWriters) : q'.p.c = q.p.c :=
  (congrArg (·.p.c) h).trans (if_neg hw)

theorem i_eq (h : WritesAsListed mn q q') (hw : mn ∉ iWriters) : q'.p.i = q.p.i :=
  (congrArg (·.p.i) h).trans (if_neg hw)

theorem d_eq (h : WritesAsListed mn q q') (hw : mn ∉ dWriters) : q'.p.d = q.p.d :=
  (congrArg (·.p.d) h).trans (if_neg hw)

theorem v_eq (h : WritesAsListed mn q q') (hw : mn ∉ vWriters) : q'.p.v = q.p.v :=
  (congrArg (·.p.v) h).trans (if_neg hw)

theorem halted_eq (h : WritesAsListed mn q q') : q'.halted = (q.halted || decide (mn = .JAM)) :=
  (congrArg Regs.halted h).trans (by simp [listedFrom, Bool.or_comm])

end WritesAsListed

theorem exec_writesAsListed {i : Instr} {s t : State} (h : exec i s = .next t) :
    WritesAsListed i.mnemonic s.regs t.regs :=
  eq_meaning_of_exec h ▸ meaning_writesAsListed i.mnemonic i.operand s

/-- A shift or rotate of a byte in memory leaves A (R245 to R248). -/
theorem shift_leaves_a {mn : Mnemonic} (hm : mn ∈ [.ASL, .LSR, .ROL, .ROR]) {o : Operand}
    (ho : o ≠ .accumulator) (s : State) : (meaning mn o s).a = s.a := by
  have memoryForm (result flags) (hf : ∀ v r s, (flags v r s : State).a = s.a) :
      (onShift result flags o s).a = s.a := by
    cases o with
    | accumulator => exact absurd rfl ho
    | implied | immediate | mem | target | targetLow | pointer | offset =>
      exact onModify_rel (R := fun q q' => q'.a = q.a) (fun _ => rfl) hf _ s
  simp only [List.mem_cons, List.not_mem_nil, or_false] at hm
  obtain rfl | rfl | rfl | rfl := hm <;> exact memoryForm _ _ fun _ _ _ => rfl

/-- Settles O54: each flag's clause is one field of what every mnemonic writes. -/
theorem onlyTheNamedInstructionsWriteAFlag : Obligations.OnlyTheNamedInstructionsWriteAFlag := by
  intro i s t ht
  have h := exec_writesAsListed ht
  exact ⟨h.c_eq, h.i_eq, h.d_eq, h.v_eq⟩

/-- Settles O55: as O54, and the memory forms of the shifts leave A although R21 lists their mnemonics. -/
theorem onlyTheNamedInstructionsWriteARegister : Obligations.OnlyTheNamedInstructionsWriteARegister := by
  intro i s t ht
  have h := exec_writesAsListed ht
  refine ⟨h.a_eq, fun hm hf => ?_, h.x_eq, h.y_eq, h.sp_eq, h.halted_eq⟩
  have ho : i.operand ≠ .accumulator := fun e => hf (congrArg Operand.format e)
  rw [eq_meaning_of_exec ht]
  exact shift_leaves_a hm ho s

/-! ## The status byte -/

/-- A flag's bit is the flag at its position and zero elsewhere. -/
theorem getElem_flagBit (b : Bool) (k j : Nat) (hj : j < 8) : (flagBit b k)[j] = (b && decide (j = k)) := by
  cases b
  · exact BitVec.getElem_zero hj
  · exact (BitVec.getElem_twoPow hj).trans (Bool.true_and _).symm

/-- The status byte reads N V 1 0 D I Z C (R35). -/
theorem pbyte_toNat (p : Flags) :
    p.pbyte.toNat = 128 * p.n.toNat + 64 * p.v.toNat + 32 + 8 * p.d.toNat + 4 * p.i.toNat + 2 * p.z.toNat
      + p.c.toNat := by
  obtain ⟨c, z, i, d, v, n⟩ := p
  revert c z i d v n
  decide

theorem pushImage_false (p : Flags) : p.pushImage false = p.pbyte := BitVec.or_zero

theorem pushImage_toNat (p : Flags) (brk : Bool) : (p.pushImage brk).toNat = p.pbyte.toNat + 16 * brk.toNat := by
  obtain ⟨c, z, i, d, v, n⟩ := p
  revert c z i d v n brk
  decide

theorem pushImage_true (p : Flags) : p.pushImage true = p.pbyte ||| 0x30 := by
  obtain ⟨c, z, i, d, v, n⟩ := p
  revert c z i d v n
  decide

/-- SetP of a pushed image gives the flags back, since it ignores the bits the push chose (R36, R37). -/
theorem ofByte_pushImage (p : Flags) (brk : Bool) : Flags.ofByte (p.pushImage brk) = p := by
  simp [Flags.ofByte, Flags.pushImage, Flags.pbyte, getElem_flagBit]

/-- Settles O40. -/
theorem statusByteImages : Obligations.StatusByteImages := fun p _ brk =>
  ⟨pbyte_toNat p, pushImage_toNat p brk, pushImage_true p, pushImage_false p, rfl, ofByte_pushImage p brk⟩

/-! ## The query -/

/-- `query()` sees the registers and the cycle total alone (R45, R418). -/
theorem query_eq_of_regs (s : State) : s.query =
    ⟨s.regs.a, s.regs.x, s.regs.y, s.regs.sp, s.regs.pc, s.regs.p.pbyte, s.regs.halted, s.cyclesTotal⟩ := rfl

/-- Settles O60: the jam's report comes from the register a jam alone sets. -/
theorem queryReportsTheRegisters : Obligations.QueryReportsTheRegisters := by
  refine ⟨fun s => ⟨rfl, rfl, rfl, rfl, rfl, pbyte_toNat s.p, rfl, rfl⟩, fun s t hr hc => ?_, fun i s hm => ?_⟩
  · rw [query_eq_of_regs, query_eq_of_regs, hr, hc]
  · have ht := exec_eq_meaning i s
    exact ⟨_, ht, (exec_writesAsListed ht).halted_eq.trans (by simp [hm])⟩

/-! ## How many accesses a step makes -/

theorem length_operandEncode (o : Operand) : o.encode.length = o.size := by
  cases o with
  | mem m => cases m <;> rfl
  | implied | accumulator | immediate | target | targetLow | pointer | offset => rfl

theorem length_encode (i : Instr) : (encode i).length = 1 + i.operand.size := by
  rw [encode, List.length_cons, length_operandEncode, Nat.add_comm]

/-- Each row of the decoder takes as many operand bytes whatever these bytes are (R100). -/
theorem decodeTable_sizes (b1 b2 : Byte) :
    decodeTable.map (fun f => (f b1 b2).operand.size) = decodeTable.map fun f => (f 0 0).operand.size := by
  simp only [decodeTable, List.map_append]
  rfl

theorem size_decodeOp (op b1 b2 : Byte) : (decodeOp op b1 b2).operand.size = operandCount op := by
  have h := congrArg (·[op.toNat]?) (decodeTable_sizes b1 b2)
  simp only [List.getElem?_map] at h
  rw [operandCount, decodeOp, decodeOp, List.getD_eq_getElem?_getD]
  cases hf : decodeTable[op.toNat]? with
  | none => rfl
  | some f => simpa [hf] using h

/-- The most cycles an instruction can take beyond its base count (R142). -/
def maxPenalty (i : Instr) : Nat :=
  match i.operand with
  | .mem _ => if i.row.pageCrossPenalty then 1 else 0
  | .offset _ => 2
  | .implied | .accumulator | .immediate _ | .target _ | .targetLow _ | .pointer _ => 0

theorem penalty_le (i : Instr) (s : State) : penalty i s ≤ maxPenalty i := by
  unfold penalty maxPenalty
  cases i.operand with
  | mem m =>
    dsimp only
    cases i.row.pageCrossPenalty <;> cases (resolve m s).crossed <;> decide
  | offset off =>
    dsimp only
    split_ifs <;> decide
  | implied | accumulator | immediate | target | targetLow | pointer => exact Nat.le_refl 0

/-- The opcode table leaves room for the bytes of an instruction and ends every one within 8 cycles (R465). -/
theorem cycleBounds (i : Instr) :
    (encode i).length ≤ i.row.baseCycles ∧ i.row.baseCycles + maxPenalty i ≤ 8 := by
  cases i <;> exact ⟨Nat.le_of_ble_eq_true rfl, Nat.le_of_ble_eq_true rfl⟩

/-- How many accesses a step makes: the table's cycles for an instruction (R401), seven for the sequences
(R407, R450), none while halted (R414). -/
def stepAccesses (s : State) : Nat :=
  match s.boundary with
  | .reset | .nmi | .irq => 7
  | .halted => 0
  | .instruction =>
    s.beginStep.peekInstr.row.baseCycles + penalty s.beginStep.peekInstr s.beginStep.fetchInstr

theorem stepAccesses_bounds {s : State} (h : s.boundary ≠ .halted) :
    1 ≤ stepAccesses s ∧ stepAccesses s ≤ 8 := by
  unfold stepAccesses
  cases hb : s.boundary with
  | reset | nmi | irq =>
    dsimp only
    decide
  | halted => exact absurd hb h
  | instruction =>
    obtain ⟨hlen, hmax⟩ := cycleBounds s.beginStep.peekInstr
    have hp := penalty_le s.beginStep.peekInstr s.beginStep.fetchInstr
    rw [length_encode] at hlen
    dsimp only
    omega

/-- The fetches and what is left after them are the table's cycles (R401). -/
theorem fetches_add_accessesLeft (s : State) :
    1 + operandCount s.peekFetch + accessesLeft s.peekInstr s.fetchInstr =
      s.peekInstr.row.baseCycles + penalty s.peekInstr s.fetchInstr := by
  obtain ⟨hlen, -⟩ := cycleBounds s.peekInstr
  have hsize : s.peekInstr.operand.size = operandCount s.peekFetch := size_decodeOp _ _ _
  rw [length_encode, hsize] at hlen
  rw [accessesLeft, length_encode, hsize]
  omega

/-- As `step_advances`, with the number of accesses. -/
theorem step_advances_stepAccesses {s : State} (h : s.boundary ≠ .halted) :
    ∃ t, step s = .next t.finishStep ∧ Advances s.beginStep t (stepAccesses s) := by
  unfold stepAccesses step
  dsimp only
  rw [show s.beginStep.boundary = s.boundary from rfl]
  cases hb : s.boundary with
  | reset => exact ⟨_, rfl, .of_resetSequence _⟩
  | halted => exact absurd hb h
  | nmi | irq => exact ⟨_, rfl, .of_interruptSequence _ _⟩
  | instruction =>
    obtain ⟨t, ht, ha⟩ := exec_advances s.beginStep.peekInstr s.beginStep.fetchInstr
    refine ⟨t, by dsimp only; rw [ht]; rfl, ?_⟩
    exact fetches_add_accessesLeft s.beginStep ▸ (Advances.of_fetchInstr s.beginStep).trans ha

/-- A halted step changes the counts alone (R414). -/
theorem step_of_halted {s : State} (h : s.boundary = .halted) : step s = .next s.beginStep.haltedStep := by
  unfold step
  dsimp only
  rw [show s.beginStep.boundary = s.boundary from rfl, h]

theorem halted_of_boundary {s : State} (h : s.boundary = .halted) : s.halted = true := by
  unfold State.boundary at h
  split_ifs at h with hr hh
  exact hh

/-! ## The invariant -/

/-- One to eight accesses on a cleared access list, then their count, leave a coherent record (R401, R465). -/
theorem Advances.finishStep_inv {s t : State} {n : Nat} (h : Advances s t n) (hs : s.StorageOk)
    (htrace : s.trace = []) (hn : 1 ≤ n ∧ n ≤ 8) : t.finishStep.Inv := by
  obtain ⟨l, hlen, hl, hlatch, -⟩ := h.accesses
  rw [htrace, List.nil_append] at hl
  subst hl hlen
  refine ⟨h.keeps.1 hs, hn.1, hn.2, .inl rfl, fun e he => ?_⟩
  rw [State.finishStep_trace, Option.mem_def] at he
  rw [State.finishStep_busLatch, hlatch, he]
  rfl

/-- Every step keeps the invariant. -/
theorem step_inv {s t : State} (hs : s.Inv) (h : step s = .next t) : t.Inv := by
  by_cases hb : s.boundary = .halted
  · cases (step_of_halted hb).symm.trans h
    exact ⟨hs.1, Nat.le_refl 1, by simp, .inr ⟨rfl, rfl, halted_of_boundary hb⟩, by rintro e ⟨⟩⟩
  · obtain ⟨u, hu, ha⟩ := step_advances_stepAccesses hb
    cases hu.symm.trans h
    exact ha.finishStep_inv hs.1 rfl (stepAccesses_bounds hb)

/-- Settles O49. -/
theorem resetStateHasTheInvariant : Obligations.ResetStateHasTheInvariant :=
  ⟨reset_storageOk, by decide, by decide, .inl rfl, by rintro e ⟨⟩; rfl⟩

/-! ## Construction -/

/-- The configuration check decides the condition of R72. -/
theorem wellFormed_iff (c : Cartridge) : c.wellFormed = true ↔ ValidCartridge c := by
  obtain ⟨size, rom, ram, init, ppu, apu⟩ := c
  cases size <;>
    simp [Cartridge.wellFormed, Cartridge.flaws, ValidCartridge, List.isEmpty_iff, or_iff_not_imp_left]

theorem cellExists_iff {rom : PrgRomSize} {ram : PrgRamSize} {k : Nat} : cellExists rom ram k = true ↔
    k < 0x0800 ∨ (0x6000 ≤ k ∧ k < 0x6000 + ramBytes ram) ∨ (0x8000 ≤ k ∧ k < 0x8000 + romBytes rom) := by
  simp [cellExists, or_assoc]

theorem ramBytes_ramSizeOf {n : Nat} (h : n = 0 ∨ n = 2048 ∨ n = 4096 ∨ n = 8192) :
    ramBytes (ramSizeOf n) = n := by
  obtain rfl | rfl | rfl | rfl := h <;> rfl

theorem romBytes_romSizeOf {n : Nat} (h : n = 16384 ∨ n = 32768) : romBytes (romSizeOf (some n)) = n := by
  obtain rfl | rfl := h <;> rfl

/-- The stores of a valid cartridge are loaded into cells it has (R46, R63, R67, R68). -/
theorem powerUpState_storageOk {c : Cartridge} (hc : ValidCartridge c) (u : PowerUp) (hookReads : List Byte)
    (ticks : List (List Signal)) : (powerUpState c u hookReads ticks).StorageOk := by
  obtain ⟨rom, hrom, hromSize, hramSize, -, -, hromBytes, hramBytes⟩ := hc
  constructor
  · exact Memory.wf_load (Memory.wf_load (Memory.wf_load rfl _ _) _ _) _ _
  · refine Memory.all_load (Memory.all_load (Memory.all_load rfl _ _ ?_) _ _ ?_) _ _ ?_ <;>
      refine fun b hb => cellExists_iff.mpr ?_
    · exact .inl (by simpa using (List.mem_filter.mp hb).2)
    · have hlt := hramBytes b hb
      rw [← ramBytes_ramSizeOf hramSize] at hlt
      exact .inr (.inl ⟨Nat.le_add_right _ _, Nat.add_lt_add_left hlt _⟩)
    · have hlt := hromBytes b hb
      rw [← romBytes_romSizeOf hromSize, ← hrom] at hlt
      exact .inr (.inr ⟨Nat.le_add_right _ _, Nat.add_lt_add_left hlt _⟩)

/-- A machine is constructed only from a valid cartridge, and the reset sequence has run (R72, R451). -/
theorem construct_eq_next {c : Cartridge} {u : PowerUp} {hookReads : List Byte} {ticks : List (List Signal)}
    {s : State} (h : construct c u hookReads ticks = .next s) :
    ValidCartridge c ∧ s = (powerUpState c u hookReads ticks).resetSequence.finishStep := by
  unfold construct at h
  split at h
  · exact ⟨(wellFormed_iff c).mp ‹_›, (Host.Outcome.next.inj h).symm⟩
  · cases h

theorem construct_inv {c : Cartridge} {u : PowerUp} {hookReads : List Byte} {ticks : List (List Signal)}
    {s : State} (h : construct c u hookReads ticks = .next s) : s.Inv := by
  obtain ⟨hc, rfl⟩ := construct_eq_next h
  exact (Advances.of_resetSequence _).finishStep_inv (powerUpState_storageOk hc u hookReads ticks) rfl (by decide)

/-- Settles O50: construction ends in a state with the invariant, every step keeps it, and the driver's calls
reach only the interrupt inputs, of which it says nothing. -/
theorem reachableStatesHaveTheInvariant : Obligations.ReachableStatesHaveTheInvariant := by
  intro s h
  induction h with
  | constructed c u hookReads ticks s h => exact construct_inv h
  | stepped s t _ h ih => exact step_inv ih h
  | nmiSet s level _ ih | irqSet s level _ ih | resetAsserted s _ ih => exact ih

end Sys2Proof.Machine

/-! Proofs. The region table, what a bus cycle reads and stores, the stack and word reads, the hook calls, and
what construction leaves in storage. -/

namespace Sys2Proof.Machine

/-! ## What every step keeps -/

/-- Settles O48: a step is a halted cycle or one to eight accesses whose count it takes (`step_inv`). -/
theorem stepKeepsTheInvariant : Obligations.StepKeepsTheInvariant := fun _ _ hs h => step_inv hs h

/-- A step does only what accesses and register updates do to storage. -/
theorem step_keeps {s t : State} (h : step s = .next t) : Keeps s t := by
  by_cases hb : s.boundary = .halted
  · cases (step_of_halted hb).symm.trans h
    exact Keeps.refl s
  · obtain ⟨u, n, hu, ha⟩ := step_advances s hb
    cases hu.symm.trans h
    exact ha.keeps

/-- Settles O51: no access of a step reaches a cell of PRG-ROM. -/
theorem romNeverChanges : Obligations.RomNeverChanges := fun _ _ _ haddr h => (step_keeps h).stored_rom haddr

/-! ## The region table -/

section
variable (s : State) {addr : Word}

theorem region_ram (h : addr.toNat < 0x2000) : s.region addr = .ram (addr.toNat % 0x0800) := if_pos h

theorem region_ppu (h1 : 0x2000 ≤ addr.toNat) (h2 : addr.toNat < 0x4000) :
    s.region addr = .ppu (addr.toNat % 8) := by
  simp only [State.region, regionOf]
  rw [if_neg (by omega), if_pos h2]

theorem region_apuIo (h1 : 0x4000 ≤ addr.toNat) (h2 : addr.toNat < 0x4018) :
    s.region addr = .apuIo (addr.toNat - 0x4000) := by
  simp only [State.region, regionOf]
  rw [if_neg (by omega), if_neg (by omega), if_pos h2]

theorem region_unmapped (h1 : 0x4018 ≤ addr.toNat) (h2 : addr.toNat < 0x6000) : s.region addr = .unmapped := by
  simp only [State.region, regionOf]
  rw [if_neg (by omega), if_neg (by omega), if_neg (by omega), if_pos h2]

theorem region_prgRam (h1 : 0x6000 ≤ addr.toNat) (h2 : addr.toNat < 0x8000) : s.region addr =
    if s.prgRam = .absent then .unmapped else .prgRam ((addr.toNat - 0x6000) % ramBytes s.prgRam) := by
  simp only [State.region, regionOf]
  rw [if_neg (by omega), if_neg (by omega), if_neg (by omega), if_neg (by omega), if_pos h2]

end

/-- The low bits of an address as a remainder. -/
theorem toNat_and_lowBits {addr mask : Word} (k : Nat) (h : mask.toNat = 2 ^ k - 1) :
    (addr &&& mask).toNat = addr.toNat % 2 ^ k := by
  rw [BitVec.toNat_and, h, Nat.and_two_pow_sub_one_eq_mod]

/-- Settles O7, one clause a row of the table. -/
theorem regionTable : Obligations.RegionTable := by
  intro s addr
  refine ⟨fun h => ?_, fun h1 h2 => ?_, fun h1 h2 => region_apuIo s h1 (by omega),
    fun h1 h2 => region_unmapped s h1 (by omega), fun h1 h2 => ?_, fun h => ?_⟩
  · rw [toNat_and_lowBits 11 rfl]
    exact region_ram s (by omega)
  · rw [toNat_and_lowBits 3 rfl]
    exact region_ppu s h1 (by omega)
  · rw [region_prgRam s h1 (by omega)]
    cases s.prgRam <;> rfl
  · rw [region_rom s h]
    cases s.prgRom <;> rfl

/-- Every address lies in one row of the region table (R62). -/
theorem region_cases (s : State) (addr : Word) :
    addr.toNat < 0x2000 ∧ s.region addr = .ram (addr.toNat % 0x0800) ∨
    0x2000 ≤ addr.toNat ∧ addr.toNat < 0x4000 ∧ s.region addr = .ppu (addr.toNat % 8) ∨
    0x4000 ≤ addr.toNat ∧ addr.toNat < 0x4018 ∧ s.region addr = .apuIo (addr.toNat - 0x4000) ∨
    0x4018 ≤ addr.toNat ∧ s.region addr = .unmapped ∨
    0x6000 ≤ addr.toNat ∧ s.prgRam ≠ .absent ∧
      s.region addr = .prgRam ((addr.toNat - 0x6000) % ramBytes s.prgRam) ∨
    0x8000 ≤ addr.toNat ∧ s.region addr = .prgRom ((addr.toNat - 0x8000) % romBytes s.prgRom) := by
  obtain h | h := Nat.lt_or_ge addr.toNat 0x2000
  · exact .inl ⟨h, region_ram s h⟩
  obtain h2 | h2 := Nat.lt_or_ge addr.toNat 0x4000
  · exact .inr (.inl ⟨h, h2, region_ppu s h h2⟩)
  obtain h3 | h3 := Nat.lt_or_ge addr.toNat 0x4018
  · exact .inr (.inr (.inl ⟨h2, h3, region_apuIo s h2 h3⟩))
  obtain h4 | h4 := Nat.lt_or_ge addr.toNat 0x6000
  · exact .inr (.inr (.inr (.inl ⟨h3, region_unmapped s h3 h4⟩)))
  obtain h5 | h5 := Nat.lt_or_ge addr.toNat 0x8000
  · by_cases hr : s.prgRam = .absent
    · exact .inr (.inr (.inr (.inl ⟨h3, (region_prgRam s h4 h5).trans (if_pos hr)⟩)))
    · exact .inr (.inr (.inr (.inr (.inl ⟨h4, hr, (region_prgRam s h4 h5).trans (if_neg hr)⟩))))
  · exact .inr (.inr (.inr (.inr (.inr ⟨h5, region_rom s h5⟩))))

theorem ramBytes_le (ram : PrgRamSize) : ramBytes ram ≤ 0x2000 := by
  cases ram <;> decide

/-- The region that names a cell of storage (log entry 1). -/
def regionOfCell (k : Nat) : Region :=
  if k < 0x0800 then .ram k else if k < 0x8000 then .prgRam (k - 0x6000) else .prgRom (k - 0x8000)

/-- A cell has one owner: the three stores share no cell (R63, R67, R68). -/
theorem region_eq_regionOfCell {s : State} {addr : Word} {k : Nat} (h : (s.region addr).cell = some k) :
    s.region addr = regionOfCell k := by
  have hram := ramBytes_le s.prgRam
  obtain ⟨-, e⟩ | ⟨-, -, e⟩ | ⟨-, -, e⟩ | ⟨-, e⟩ | ⟨-, hr, e⟩ | ⟨-, e⟩ := region_cases s addr <;>
    rw [e] at h ⊢ <;> simp only [Region.cell, Option.some.injEq, reduceCtorEq] at h <;> subst h
  · exact (if_pos (Nat.mod_lt _ (by decide))).symm
  · have hlt := Nat.mod_lt (addr.toNat - 0x6000) (ramBytes_pos hr)
    rw [regionOfCell, if_neg (by omega), if_pos (by omega), Nat.add_sub_cancel_left]
  · rw [regionOfCell, if_neg (by omega), if_neg (by omega), Nat.add_sub_cancel_left]

/-! ## Reads -/

theorem peek_of_hook {s : State} {addr : Word} {w : Window} {r : Nat} (h : (s.region addr).hook = some (w, r)) :
    s.peek addr = s.hookAnswer w r := by
  rw [State.peek, h]

theorem peek_of_unmapped {s : State} {addr : Word} (h : s.region addr = .unmapped) : s.peek addr = s.busLatch := by
  simp [State.peek, State.stored, h, Region.hook, Region.cell]

theorem read_hookReads (s : State) (addr : Word) : (s.read addr).hookReads =
    if (s.region addr).hook.isSome then s.hookReads.tail else s.hookReads := rfl

theorem read_hookCount (s : State) (addr : Word) : (s.read addr).hookCount =
    if (s.region addr).hook.isSome then s.hookCount + 1 else s.hookCount := rfl

/-- Settles O8: each clause is the read of one kind of owner. -/
theorem readsReturnTheOwnersByte : Obligations.ReadsReturnTheOwnersByte := by
  refine fun s addr => ⟨regs_read s addr, Stores.read s addr, fun v => peek_of_stored, fun w r h => ⟨?_, ?_, ?_⟩,
    fun h => ⟨peek_of_unmapped h, peek_of_unmapped h⟩⟩
  · intro v rest hs
    simp [peek_of_hook h, read_hookReads, h, State.hookAnswer, hs]
  · intro hs
    simp [peek_of_hook h, State.hookAnswer, hs]
  · simp [read_hookCount, h]

/-- Settles O10: both bus cycles set the latch, whatever the region. -/
theorem latchTakesEveryByteDriven : Obligations.LatchTakesEveryByteDriven := fun s addr v =>
  ⟨State.read_busLatch s addr, State.write_busLatch s addr v⟩

/-! ## Writes -/

/-- The addresses that a write reaches are the mirrors of its own (R73). -/
theorem aliases_iff_region_eq {s : State} {addr : Word} {k : Nat} (hw : (s.region addr).writableCell = some k)
    (b : Word) : s.aliases addr b = true ↔ s.region b = s.region addr := by
  have hc := Region.cell_of_writable hw
  simp only [State.aliases, hw, Option.isSome_some, Bool.true_and, decide_eq_true_eq]
  exact ⟨fun hb => (region_eq_regionOfCell hb).trans (region_eq_regionOfCell hc).symm, fun hb => hb ▸ hc⟩

theorem stored_write {s : State} (hs : s.StorageOk) {addr : Word} {k : Nat}
    (hw : (s.region addr).writableCell = some k) (v : Byte) (b : Word) :
    (s.write addr v).stored b = if s.region b = s.region addr then some v else s.stored b :=
  (Stores.write hs.1 addr v b).trans (if_congr (aliases_iff_region_eq hw b) rfl rfl)

/-- What a write stores is read at every address of the same region and index (R73). -/
theorem peek_write_of_region_eq {s : State} (hs : s.StorageOk) {a b : Word} {k : Nat}
    (hw : (s.region a).writableCell = some k) (v : Byte) (h : s.region b = s.region a) :
    (s.write a v).peek b = v :=
  peek_of_stored ((stored_write hs hw v b).trans (if_pos h))

theorem write_mem_of_not_writable {s : State} {addr : Word} (h : (s.region addr).writableCell = none) (v : Byte) :
    (s.write addr v).mem = s.mem := by
  simp only [State.write, h]

theorem writableCell_eq_none {r : Region} (h : ∀ k, r ≠ .ram k ∧ r ≠ .prgRam k) : r.writableCell = none := by
  cases r with
  | ram k => exact absurd rfl (h k).1
  | prgRam k => exact absurd rfl (h k).2
  | ppu | apuIo | unmapped | prgRom => rfl

/-- Settles O9: the cell of a RAM or PRG-RAM address is written, and no other region has one to write. -/
theorem writesReachOnlyTheOwnersCell : Obligations.WritesReachOnlyTheOwnersCell := by
  intro s addr v hs
  refine ⟨regs_write s addr v, fun k b hr => ?_,
    fun hr => write_mem_of_not_writable (writableCell_eq_none hr) v⟩
  obtain hr | hr := hr <;> exact stored_write hs (by rw [hr]; rfl) v b

/-- Settles O11: mirrors have one region and index. -/
theorem mirrorsAreOneLocation : Obligations.MirrorsAreOneLocation := by
  intro s a b v hs
  refine ⟨fun ha hb hab => ?_, fun ha1 ha2 hb1 hb2 hpos hab => ?_, fun h1 h2 => ?_, fun h1 h2 => ?_⟩
  · have hra := region_ram s ha
    exact peek_write_of_region_eq hs (by rw [hra]; rfl) v (by rw [hra, region_ram s hb, hab])
  · have hr : s.prgRam ≠ .absent := fun h => by simp [h, ramBytes] at hpos
    have hra := (region_prgRam s ha1 ha2).trans (if_neg hr)
    exact peek_write_of_region_eq hs (by rw [hra]; rfl) v
      (by rw [hra, region_prgRam s hb1 hb2, if_neg hr, hab])
  · rw [region_ppu s h1 h2]
    rfl
  · rw [region_apuIo s h1 h2]
    rfl

/-! ## The stack and the word reads -/

theorem byte_add_one (v : Byte) : v + 1 = BitVec.ofNat 8 (v.toNat + 1) := BitVec.add_def v 1

theorem byte_sub_one (v : Byte) : v - 1 = BitVec.ofNat 8 (v.toNat + 255) := by
  rw [BitVec.sub_def, Nat.add_comm]
  rfl

theorem word_add_one (w : Word) : w + 1 = BitVec.ofNat 16 (w.toNat + 1) := BitVec.add_def w 1

/-- The next address of the page: the low byte wraps (R75). -/
theorem addInPage_one (w : Word) :
    addInPage w 1 = BitVec.ofNat 16 (w.toNat / 256 * 256 + (w.toNat + 1) % 256) := by
  apply BitVec.eq_of_toNat_eq
  have := w.isLt
  simp only [addInPage, byte_add_one, cat_toNat, hi_toNat, lo_toNat, BitVec.toNat_ofNat]
  omega

/-- Settles O12: the stack page is RAM wherever S points, and a byte's step is modulo 256. -/
theorem stackWrapsInPageOne : Obligations.StackWrapsInPageOne := by
  intro s v hs
  refine ⟨region_stackPage s s.sp, ?_, Stores.write hs.1 _ v, RanWith.push s v, ?_, ?_,
    Stores.read s (stackPage (s.sp + 1)), RanWith.pull s⟩
  · rw [regs_push, byte_sub_one]
  · rw [regs_pull, byte_add_one]
  · exact (stored_stackPage s (s.sp + 1)).trans (congrArg some (peekPull_eq s).symm)

/-- The word of two reads where storage backs both addresses. -/
theorem cat_peek_toNat {s : State} {a b : Word} {l h : Byte} (hl : s.stored a = some l)
    (hh : s.stored b = some h) : (cat ((s.read a).peek b) (s.peek a)).toNat = h.toNat * 256 + l.toNat := by
  rw [cat_toNat, peek_of_stored hl, peek_of_stored ((stored_read s a b).trans hh)]

theorem shape_read_read (s : State) (a b : Word) :
    shape ((s.read a).read b).trace = shape s.trace ++ [readAt a, readAt b] := by
  simp [shape]

/-- Settles O13: a word read is two reads, at the address and at the next one, of memory or of the page. -/
theorem wordReadsTakeTheLowByteFirst : Obligations.WordReadsTakeTheLowByteFirst := by
  refine fun s addr => ⟨?_, ?_, fun l h hl hh => cat_peek_toNat hl hh, fun l h hl hh => cat_peek_toNat hl hh⟩
  · rw [← word_add_one]
    exact shape_read_read s addr (addr + 1)
  · rw [← addInPage_one]
    exact shape_read_read s addr (addInPage addr 1)

/-! ## Hook calls -/

/-- The window of an address and the register index its hook is given (R64, R65). -/
theorem region_hook (s : State) (addr : Word) : (s.region addr).hook =
    if 0x2000 ≤ addr.toNat ∧ addr.toNat ≤ 0x3FFF then some (.ppu, addr.toNat % 8)
    else if 0x4000 ≤ addr.toNat ∧ addr.toNat ≤ 0x4017 then some (.apuIo, addr.toNat - 0x4000)
    else none := by
  obtain ⟨h, e⟩ | ⟨h1, h2, e⟩ | ⟨h1, h2, e⟩ | ⟨h, e⟩ | ⟨h, -, e⟩ | ⟨h, e⟩ := region_cases s addr <;> rw [e]
  · rw [if_neg (by omega), if_neg (by omega)]; rfl
  · rw [if_pos (by omega)]; rfl
  · rw [if_neg (by omega), if_pos (by omega)]; rfl
  · rw [if_neg (by omega), if_neg (by omega)]; rfl
  · rw [if_neg (by omega), if_neg (by omega)]; rfl
  · rw [if_neg (by omega), if_neg (by omega)]; rfl

/-- One more access makes the call of its window, or none (R64, R65, R71). -/
theorem hookCalls_of_trace {s t : State} {e : BusAccess} (htrace : t.trace = s.trace ++ [e])
    (hregion : ∀ a, t.region a = s.region a) :
    t.hookCalls = s.hookCalls ++ ((s.region e.addr).hook.map fun wr => ⟨wr.1, wr.2, e.kind, e.data⟩).toList := by
  simp only [State.hookCalls, htrace, hregion, List.filterMap_append]
  cases h : (s.region e.addr).hook <;> simp [h]

theorem hookCalls_read (s : State) (addr : Word) : (s.read addr).hookCalls =
    s.hookCalls ++ ((s.region addr).hook.map fun wr => ⟨wr.1, wr.2, .read, s.peek addr⟩).toList :=
  hookCalls_of_trace (State.read_trace s addr) (region_read s addr)

theorem hookCalls_write (s : State) (addr : Word) (v : Byte) : (s.write addr v).hookCalls =
    s.hookCalls ++ ((s.region addr).hook.map fun wr => ⟨wr.1, wr.2, .write, v⟩).toList :=
  hookCalls_of_trace (State.write_trace s addr v) fun b => region_write s addr b v

/-- The hook calls of a step by the addresses of its accesses (R81). -/
theorem hookCalls_eq (s : State) : s.hookCalls = s.trace.filterMap fun e =>
    if 0x2000 ≤ e.addr.toNat ∧ e.addr.toNat ≤ 0x3FFF then some ⟨.ppu, e.addr.toNat % 8, e.kind, e.data⟩
    else if 0x4000 ≤ e.addr.toNat ∧ e.addr.toNat ≤ 0x4017 then some ⟨.apuIo, e.addr.toNat - 0x4000, e.kind, e.data⟩
    else none := by
  refine List.filterMap_congr fun e _ => ?_
  rw [region_hook]
  split_ifs <;> rfl

/-- Settles O59: an access adds the call of its window, and the windows are two ranges of addresses. -/
theorem windowAccessesCallTheirHook : Obligations.WindowAccessesCallTheirHook := by
  refine ⟨fun s addr v => ⟨fun h1 h2 => ?_, fun h1 h2 => ?_, fun h => ?_⟩, hookCalls_eq⟩ <;>
    rw [hookCalls_read, hookCalls_write, region_hook]
  · rw [if_pos ⟨h1, h2⟩]
    exact ⟨rfl, rfl⟩
  · rw [if_neg (by omega), if_pos ⟨h1, h2⟩]
    exact ⟨rfl, rfl⟩
  · rw [if_neg (by omega), if_neg (by omega)]
    exact ⟨List.append_nil _, List.append_nil _⟩

/-! ## The reset sequence -/

/-- The reads of the reset sequence before it sets the registers: two at PC and three suppressed pushes (R450). -/
def State.resetReads (s : State) : State :=
  let s := (s.read s.pc).read s.pc
  ((s.read (stackPage s.sp)).read (stackPage (s.sp - 1))).read (stackPage (s.sp - 2))

theorem resetSequence_eq (s : State) :
    s.resetSequence = s.resetReads.resetRegisters.jumpVector resetVector := rfl

@[simp] theorem stored_resetRegisters (s : State) (b : Word) : s.resetRegisters.stored b = s.stored b := rfl

@[simp] theorem regs_resetRegisters (s : State) :
    s.resetRegisters.regs = { s.regs with sp := 0xFD, p := { s.p with i := true }, halted := false } := rfl

@[simp] theorem stored_resetReads (s : State) (b : Word) : s.resetReads.stored b = s.stored b := by
  simp only [State.resetReads, stored_read]

@[simp] theorem regs_resetReads (s : State) : s.resetReads.regs = s.regs := by
  simp only [State.resetReads, regs_read]

@[simp] theorem p_resetReads (s : State) : s.resetReads.p = s.p := congrArg Regs.p (regs_resetReads s)

/-- The reads of the reset sequence before the vector, by address. -/
def resetShape (s : State) : List (AccessKind × Word) :=
  [readAt s.pc, readAt s.pc, readAt (stackPage s.sp), readAt (stackPage (s.sp - 1)), readAt (stackPage (s.sp - 2))]

theorem RanWith.resetReads (s : State) : ∃ d, RanWith s s.resetReads d ∧ shape d = resetShape s :=
  ⟨_, ((((RanWith.read s _).trans (.read _ _)).trans (.read _ _)).trans (.read _ _)).trans (.read _ _), rfl⟩

/-- A vector's two reads return the bytes storage holds there. -/
theorem RanWith.jumpVector {s : State} {vec : Word} {l h : Byte} (hl : s.stored vec = some l)
    (hh : s.stored (vec + 1) = some h) : RanWith s (s.jumpVector vec) [rd vec l, rd (vec + 1) h] := by
  have hran := (RanWith.read s vec).trans (RanWith.read (s.read vec) (vec + 1))
  rw [peek_of_stored hl, peek_of_stored ((stored_read s vec (vec + 1)).trans hh)] at hran
  exact hran.setPc _

theorem jumpVector_pc {s : State} {vec : Word} {l h : Byte} (hl : s.stored vec = some l)
    (hh : s.stored (vec + 1) = some h) : (s.jumpVector vec).pc = cat h l := by
  rw [← peek_of_stored hl, ← peek_of_stored ((stored_read s vec (vec + 1)).trans hh)]
  rfl

theorem jumpVector_regs (s : State) (vec : Word) :
    (s.jumpVector vec).regs = { s.regs with pc := (s.jumpVector vec).pc } := rfl

@[simp] theorem resetSequence_cyclesTotal (s : State) : s.resetSequence.cyclesTotal = s.cyclesTotal := by
  simp [resetSequence_eq, State.resetReads, State.jumpVector, State.read16]

/-- Accesses outside the windows use up no hook answer (R71, R77). -/
theorem windowReads_eq_zero {s : State} {l : List BusAccess} (h : ∀ e ∈ shape l, (s.region e.2).hook = none) :
    s.windowReads l = 0 := by
  refine List.countP_eq_zero.mpr fun e he => ?_
  simp [h _ (List.mem_map_of_mem he)]

theorem stored_resetSequence (s : State) (b : Word) : s.resetSequence.stored b = s.stored b := by
  simp only [resetSequence_eq, State.jumpVector, State.read16, stored_setPc, stored_read, stored_resetRegisters,
    stored_resetReads]

/-- What the reset sequence does (R450): the environment's calls of five reads act before the clearing of the
requests, those of the vector's two reads after it (log entry 15). -/
theorem resetSequence_spec (s : State) : ∃ d l h, s.stored 0xFFFC = some l ∧ s.stored 0xFFFD = some h ∧
    s.resetSequence.regs = { s.regs with sp := 0xFD, p := { s.p with i := true }, halted := false, pc := cat h l } ∧
    s.resetSequence.trace = s.trace ++ d ++ [rd 0xFFFC l, rd 0xFFFD h] ∧ shape d = resetShape s ∧
    s.resetSequence.lines =
      ({ linesAfter s 5 with nmiPending := false, resetPending := false } : Lines).signals
        ((s.ticks.drop 5).take 2).flatten ∧
    s.resetSequence.ticks = s.ticks.drop 7 ∧ s.resetSequence.busLatch = h ∧
    s.resetSequence.hookReads = s.hookReads.drop (s.windowReads d) ∧
    s.resetSequence.hookCount = s.hookCount + s.windowReads d := by
  obtain ⟨d, hd, hshape⟩ := RanWith.resetReads s
  have hlen : d.length = 5 := (length_shape d).symm.trans (congrArg List.length hshape)
  obtain ⟨l, hl⟩ : ∃ l, s.stored 0xFFFC = some l := ⟨_, stored_rom s (by decide)⟩
  obtain ⟨h, hh⟩ : ∃ h, s.stored 0xFFFD = some h := ⟨_, stored_rom s (by decide)⟩
  have hl' : s.resetReads.resetRegisters.stored resetVector = some l := by
    rw [stored_resetRegisters, stored_resetReads]
    exact hl
  have hh' : s.resetReads.resetRegisters.stored (resetVector + 1) = some h := by
    rw [stored_resetRegisters, stored_resetReads]
    exact hh
  obtain ⟨dtrace, -, dlines, dticks, -, -, -, -, dreads, dcount⟩ := hd
  obtain ⟨vtrace, vlatch, vlines, vticks, -, -, -, -, vreads, vcount⟩ := RanWith.jumpVector hl' hh'
  rw [hlen] at dlines dticks
  rw [resetSequence_eq]
  refine ⟨d, l, h, hl, hh, ?_, ?_, hshape, ?_, ?_, vlatch, ?_, ?_⟩
  · rw [jumpVector_regs, jumpVector_pc hl' hh', regs_resetRegisters, regs_resetReads, p_resetReads]
  · rw [vtrace, State.resetRegisters_trace, dtrace]
    rfl
  · rw [vlines, State.resetRegisters_lines, dlines, State.resetRegisters_ticks, dticks]
    rfl
  · rw [vticks, State.resetRegisters_ticks, dticks, List.drop_drop]
    rfl
  · exact vreads.trans dreads
  · exact vcount.trans dcount

/-! ## Construction -/

theorem Memory.load_concat (m : Memory) (base : Nat) (bytes : List (Nat × Byte)) (b : Nat × Byte) :
    Memory.load m base (bytes ++ [b]) = Memory.write (Memory.load m base bytes) (base + b.1) b.2 :=
  List.foldl_concat ..

/-- A loaded array is read back, its last pair for an offset first, over what was there before. -/
theorem Memory.read_load {m : Memory} (hm : Memory.wf m = true) (base : Nat) (bytes : List (Nat × Byte)) (k : Nat) :
    Memory.read (Memory.load m base bytes) (base + k) =
      ((bytes.reverse.find? fun b => decide (b.1 = k)).map Prod.snd).getD (Memory.read m (base + k)) := by
  induction bytes using List.reverseRecOn with
  | nil => rfl
  | append_singleton bytes b ih =>
    rw [Memory.load_concat, List.reverse_concat, List.find?_cons]
    by_cases h : b.1 = k
    · rw [h, Memory.read_write_same (Memory.wf_load hm base bytes)]
      simp
    · rw [Memory.read_write_other _ _ (by omega), ih]
      simp [h]

/-- Loading an array leaves every cell it does not name. -/
theorem Memory.read_load_other (m : Memory) {base : Nat} {bytes : List (Nat × Byte)} {k : Nat}
    (h : ∀ b ∈ bytes, k ≠ base + b.1) : Memory.read (Memory.load m base bytes) k = Memory.read m k := by
  induction bytes generalizing m with
  | nil => rfl
  | cons b bytes ih =>
    exact (ih _ fun c hc => h c (List.mem_cons_of_mem b hc)).trans
      (Memory.read_write_other m b.2 (h b List.mem_cons_self))

/-- An array loaded over cells that hold zero is read back as the array it is (log entry 12). -/
theorem Memory.read_load_array {m : Memory} (hm : Memory.wf m = true) {base k : Nat} (bytes : List (Nat × Byte))
    (hk : Memory.read m (base + k) = 0) : Memory.read (Memory.load m base bytes) (base + k) = arrayByte bytes k := by
  rw [Memory.read_load hm, hk, arrayByte]

/-- Cutting an array off at a size leaves the bytes below it. -/
theorem arrayByte_filter_lt {bytes : List (Nat × Byte)} {size k : Nat} (hk : k < size) :
    arrayByte (bytes.filter fun b => decide (b.1 < size)) k = arrayByte bytes k := by
  have hp (b : Nat × Byte) :
      decide (decide (b.1 < size) = true ∧ decide (b.1 = k) = true) = decide (b.1 = k) := by
    simp only [decide_eq_true_eq]
    exact decide_eq_decide.mpr ⟨And.right, fun h => ⟨h ▸ hk, h⟩⟩
  simp only [arrayByte, ← List.filter_reverse, List.find?_filter, hp]

/-- The cells at power-up once RAM is loaded (R46, R63). -/
def ramCells (u : PowerUp) : Memory :=
  Memory.load [] 0 (u.ramInit.filter fun b => decide (b.1 < 0x0800))

/-- The cells at power-up once RAM and PRG-RAM are loaded (R67). -/
def ramAndPrgRamCells (c : Cartridge) (u : PowerUp) : Memory := Memory.load (ramCells u) 0x6000 c.prgRamInit

theorem ramCells_wf (u : PowerUp) : Memory.wf (ramCells u) = true := Memory.wf_load rfl _ _

theorem ramAndPrgRamCells_wf (c : Cartridge) (u : PowerUp) : Memory.wf (ramAndPrgRamCells c u) = true :=
  Memory.wf_load (ramCells_wf u) _ _

theorem powerUpState_mem (c : Cartridge) (u : PowerUp) (hooks : List Byte) (ticks : List (List Signal)) :
    (powerUpState c u hooks ticks).mem = Memory.load (ramAndPrgRamCells c u) 0x8000 c.prgRom := rfl

theorem read_ramCells {u : PowerUp} {k : Nat} (hk : k < 0x0800) :
    Memory.read (ramCells u) k = arrayByte u.ramInit k := by
  have h := Memory.read_load_array (m := []) rfl (base := 0) (k := k)
    (u.ramInit.filter fun b => decide (b.1 < 0x0800)) rfl
  rwa [Nat.zero_add, arrayByte_filter_lt hk] at h

theorem read_ramCells_above {u : PowerUp} {k : Nat} (hk : 0x0800 ≤ k) : Memory.read (ramCells u) k = 0 := by
  refine Memory.read_load_other [] fun b hb => ?_
  have hlt := of_decide_eq_true (List.mem_filter.mp hb).2
  omega

section
variable {c : Cartridge} (u : PowerUp) (hooks : List Byte) (ticks : List (List Signal)) {k : Nat}

theorem powerUpState_read_ram (hk : k < 0x0800) :
    Memory.read (powerUpState c u hooks ticks).mem k = arrayByte u.ramInit k := by
  rw [powerUpState_mem, Memory.read_load_other _ fun b _ => by omega, ramAndPrgRamCells,
    Memory.read_load_other _ fun b _ => by omega, read_ramCells hk]

theorem powerUpState_read_prgRam (hk : k < 0x2000) :
    Memory.read (powerUpState c u hooks ticks).mem (0x6000 + k) = arrayByte c.prgRamInit k := by
  rw [powerUpState_mem, Memory.read_load_other _ fun b _ => by omega, ramAndPrgRamCells,
    Memory.read_load_array (ramCells_wf u) _ (read_ramCells_above (by omega))]

theorem powerUpState_read_prgRom (hfit : ∀ b ∈ c.prgRamInit, b.1 < 0x2000) :
    Memory.read (powerUpState c u hooks ticks).mem (0x8000 + k) = arrayByte c.prgRom k := by
  refine Memory.read_load_array (ramAndPrgRamCells_wf c u) _ ?_
  rw [ramAndPrgRamCells, Memory.read_load_other, read_ramCells_above (by omega)]
  intro b hb
  have := hfit b hb
  omega

end

/-! ### The stores by address -/

theorem stored_of_ram (s : State) {k : Nat} (hk : k < 0x0800) :
    s.stored (BitVec.ofNat 16 k) = some (Memory.read s.mem k) := by
  have ha : (BitVec.ofNat 16 k).toNat = k := Nat.mod_eq_of_lt (by omega)
  rw [State.stored, region_ram s (by omega), ha, Nat.mod_eq_of_lt hk]
  rfl

theorem stored_of_prgRam (s : State) {k : Nat} (hk : k < ramBytes s.prgRam) :
    s.stored (BitVec.ofNat 16 (0x6000 + k)) = some (Memory.read s.mem (0x6000 + k)) := by
  have hle := ramBytes_le s.prgRam
  have ha : (BitVec.ofNat 16 (0x6000 + k)).toNat = 0x6000 + k := Nat.mod_eq_of_lt (by omega)
  have hr : s.prgRam ≠ .absent := fun h => by simp [h, ramBytes] at hk
  rw [State.stored, region_prgRam s (by omega) (by omega), if_neg hr, ha, Nat.add_sub_cancel_left,
    Nat.mod_eq_of_lt hk]
  rfl

theorem romBytes_le (rom : PrgRomSize) : romBytes rom ≤ 0x8000 := by
  cases rom <;> decide

theorem stored_of_prgRom (s : State) {k : Nat} (hk : k < romBytes s.prgRom) :
    s.stored (BitVec.ofNat 16 (0x8000 + k)) = some (Memory.read s.mem (0x8000 + k)) := by
  have hle := romBytes_le s.prgRom
  have ha : (BitVec.ofNat 16 (0x8000 + k)).toNat = 0x8000 + k := Nat.mod_eq_of_lt (by omega)
  rw [stored_rom s (by omega), ha, Nat.add_sub_cancel_left, Nat.mod_eq_of_lt hk]

/-! ### The power-on reset -/

/-- The reads of the power-on sequence before the vector: PC and S are zero (R46, R450). -/
theorem resetShape_powerUpState (c : Cartridge) (u : PowerUp) (hooks : List Byte) (ticks : List (List Signal)) :
    resetShape (powerUpState c u hooks ticks) =
      [(.read, 0x0000), (.read, 0x0000), (.read, 0x0100), (.read, 0x01FF), (.read, 0x01FE)] := by
  simp only [resetShape, powerUpState]
  decide

theorem windowReads_powerUpState {c : Cartridge} {u : PowerUp} {hooks : List Byte} {ticks : List (List Signal)}
    {d : List BusAccess} (hd : shape d = resetShape (powerUpState c u hooks ticks)) :
    (powerUpState c u hooks ticks).windowReads d = 0 := by
  refine windowReads_eq_zero fun e he => ?_
  rw [hd, resetShape_powerUpState] at he
  have hlow : ∀ e ∈ [((.read, 0x0000) : AccessKind × Word), (.read, 0x0000), (.read, 0x0100), (.read, 0x01FF),
      (.read, 0x01FE)], e.2.toNat < 0x2000 := by decide
  rw [region_ram _ (hlow e he)]
  rfl

theorem construct_of_valid {c : Cartridge} (hc : ValidCartridge c) (u : PowerUp) (hooks : List Byte)
    (ticks : List (List Signal)) :
    construct c u hooks ticks = .next (powerUpState c u hooks ticks).resetSequence.finishStep :=
  if_pos ((wellFormed_iff c).mpr hc)

theorem construct_of_not_valid {c : Cartridge} (hc : ¬ ValidCartridge c) (u : PowerUp) (hooks : List Byte)
    (ticks : List (List Signal)) : construct c u hooks ticks = .refused .invalidConfiguration :=
  if_neg fun h => hc ((wellFormed_iff c).mp h)

theorem romSizeOf_cases {n : Nat} (h : n = 16384 ∨ n = 32768) :
    romSizeOf (some n) = .k16 ∧ some n = some 16384 ∨ romSizeOf (some n) = .k32 ∧ some n = some 32768 := by
  obtain rfl | rfl := h
  · exact .inl ⟨rfl, rfl⟩
  · exact .inr ⟨rfl, rfl⟩

theorem ramSizeOf_cases {n : Nat} (h : n = 0 ∨ n = 2048 ∨ n = 4096 ∨ n = 8192) :
    ramSizeOf n = .absent ∧ n = 0 ∨ ramSizeOf n = .k2 ∧ n = 2048 ∨ ramSizeOf n = .k4 ∧ n = 4096 ∨
      ramSizeOf n = .k8 ∧ n = 8192 := by
  obtain rfl | rfl | rfl | rfl := h <;> simp [ramSizeOf]

section
variable {c : Cartridge} (u : PowerUp) (hooks : List Byte) (ticks : List (List Signal)) {k : Nat}

theorem powerUpState_stored_ram (hk : k < 2048) :
    (powerUpState c u hooks ticks).stored (BitVec.ofNat 16 k) = some (arrayByte u.ramInit k) := by
  rw [stored_of_ram _ hk, powerUpState_read_ram u hooks ticks hk]

theorem powerUpState_stored_prgRam (hc : ValidCartridge c) (hk : k < c.prgRamSize) :
    (powerUpState c u hooks ticks).stored (BitVec.ofNat 16 (0x6000 + k)) = some (arrayByte c.prgRamInit k) := by
  obtain ⟨-, -, -, hsize, -⟩ := hc
  have hram : k < ramBytes (powerUpState c u hooks ticks).prgRam := hk.trans_eq (ramBytes_ramSizeOf hsize).symm
  rw [stored_of_prgRam _ hram, powerUpState_read_prgRam u hooks ticks (hram.trans_le (ramBytes_le _))]

theorem powerUpState_stored_prgRom (hc : ValidCartridge c) {rom : Nat} (hrom : c.prgRomSize = some rom)
    (hk : k < rom) :
    (powerUpState c u hooks ticks).stored (BitVec.ofNat 16 (0x8000 + k)) = some (arrayByte c.prgRom k) := by
  obtain ⟨rom', hrom', hromSize, hramSize, -, -, -, hramBytes⟩ := hc
  obtain rfl := Option.some.inj (hrom.symm.trans hrom')
  have hk' : k < romBytes (powerUpState c u hooks ticks).prgRom := by
    rw [powerUpState, hrom, romBytes_romSizeOf hromSize]
    exact hk
  rw [stored_of_prgRom _ hk', powerUpState_read_prgRom u hooks ticks fun b hb => ?_]
  exact (hramBytes b hb).trans_le (ramBytes_ramSizeOf hramSize ▸ ramBytes_le _)

end

/-- Settles O45: the check decides R72; the rest is the reset sequence on the loaded stores. -/
theorem constructionChecksAndResets : Obligations.ConstructionChecksAndResets := by
  intro c u hooks ticks
  refine ⟨fun hc => construct_of_not_valid hc u hooks ticks, fun hc => ?_⟩
  have hnext := construct_of_valid hc u hooks ticks
  have hstored := stored_resetSequence (powerUpState c u hooks ticks)
  have htotal := resetSequence_cyclesTotal (powerUpState c u hooks ticks)
  obtain ⟨hprgRom, hprgRam, -⟩ := (Keeps.resetSequence (powerUpState c u hooks ticks)).2
  obtain ⟨d, l, h, hl, hh, hregs, htrace, hshape, hlines, hticks, hlatch, hreads, hcount⟩ :=
    resetSequence_spec (powerUpState c u hooks ticks)
  rw [windowReads_powerUpState hshape] at hreads hcount
  rw [resetShape_powerUpState] at hshape
  generalize (powerUpState c u hooks ticks).resetSequence = w at *
  have hcycles : w.trace.length = 7 := by
    rw [htrace, List.length_append, List.length_append, ← length_shape d, hshape]
    rfl
  refine ⟨w.finishStep, l, h, hnext, ?_, ?_, fun k hk => ?_, fun k hk => ?_, fun k rom hrom hk => ?_,
    (hstored _).trans hl, (hstored _).trans hh, hregs, hcycles, ?_, ?_, hlatch, hreads, hcount, hticks, hlines,
    construct_inv hnext⟩
  · obtain ⟨rom, hrom, hsize, -⟩ := hc
    rw [State.finishStep_prgRom, hprgRom, powerUpState, hrom]
    exact romSizeOf_cases hsize
  · obtain ⟨-, -, -, hsize, -⟩ := hc
    rw [State.finishStep_prgRam, hprgRam]
    exact ramSizeOf_cases hsize
  · exact (hstored _).trans (powerUpState_stored_ram u hooks ticks hk)
  · exact (hstored _).trans (powerUpState_stored_prgRam u hooks ticks hc hk)
  · exact (hstored _).trans (powerUpState_stored_prgRom u hooks ticks hc hrom hk)
  · rw [State.finishStep_cyclesTotal, htotal, hcycles]
    rfl
  · rw [State.finishStep_trace, htrace, shape, List.map_append, List.map_append]
    exact congrArg (· ++ _) hshape

end Sys2Proof.Machine

/-! Proofs. The decoder and the encoder are inverse to each other, every opcode decodes and runs, and the opcode
table describes what an opcode decodes to (30_encoding.md). -/

namespace Sys2Proof.Machine

/-! ## Decoding and encoding -/

/-! ### An opcode fixes the mode, the bytes after it fill the operand -/

/-- The memory operand of the same mode with the operand bytes `b1` and `b2`, low byte first (R103). -/
def fillMem (b1 b2 : Byte) : MemOperand → MemOperand
  | .zp _ => .zp b1
  | .zpX _ => .zpX b1
  | .zpY _ => .zpY b1
  | .abs _ => .abs (cat b2 b1)
  | .absX _ => .absX (cat b2 b1)
  | .absY _ => .absY (cat b2 b1)
  | .indX _ => .indX b1
  | .indY _ => .indY b1

/-- The operand of the same mode with the operand bytes `b1` and `b2`, low byte first (R101, R103). -/
def fillOperand (b1 b2 : Byte) : Operand → Operand
  | .implied => .implied
  | .accumulator => .accumulator
  | .immediate _ => .immediate b1
  | .mem m => .mem (fillMem b1 b2 m)
  | .target _ => .target (cat b2 b1)
  | .targetLow _ => .targetLow b1
  | .pointer _ => .pointer (cat b2 b1)
  | .offset _ => .offset b1

/-- A filled operand encodes to as many of the bytes as its mode takes. -/
theorem encode_fillOperand (b1 b2 : Byte) (o : Operand) :
    (fillOperand b1 b2 o).encode = [b1, b2].take o.size := by
  cases o with
  | mem m => cases m <;> simp [fillOperand, fillMem, Operand.encode, MemOperand.encode, Operand.size]
  | implied | accumulator | immediate | target | targetLow | pointer | offset =>
    simp [fillOperand, Operand.encode, Operand.size]

/-- An operand filled with its own bytes is the operand: its encoding drops no bit (R103). -/
theorem fillOperand_encode (o : Operand) :
    fillOperand (o.encode.getD 0 0) (o.encode.getD 1 0) o = o := by
  cases o with
  | mem m => cases m <;> simp [fillOperand, fillMem, Operand.encode, MemOperand.encode]
  | implied | accumulator | immediate | target | targetLow | pointer | offset =>
    simp [fillOperand, Operand.encode]

/-- No mode takes more than two operand bytes (R101). -/
theorem size_le_two (o : Operand) : o.size ≤ 2 := by
  cases o with
  | mem m => cases m <;> exact Nat.le_of_ble_eq_true rfl
  | implied | accumulator | immediate | target | targetLow | pointer | offset => exact Nat.le_of_ble_eq_true rfl

/-! ### The rows of the decoder -/

/-- No operand byte changes the opcode of what a row gives (R100). -/
theorem decodeTable_opcodes (b1 b2 c1 c2 : Byte) :
    decodeTable.map (fun f => (f b1 b2).opcode) = decodeTable.map fun f => (f c1 c2).opcode := by
  simp only [decodeTable, List.map_append]
  rfl

/-- Row `n` of the decoder is the row of opcode `n` (R104). -/
theorem decodeTable_opcodes_zero :
    decodeTable.map (fun f => (f 0 0).opcode) = (List.range 256).map (BitVec.ofNat 8) := by
  decide +kernel

theorem length_decodeTable : decodeTable.length = 256 := by
  simpa using congrArg List.length decodeTable_opcodes_zero

/-- A row's operand has one mode, filled with the operand bytes (R100, R103). -/
theorem decodeTable_operands (b1 b2 : Byte) :
    decodeTable.map (fun f => (f b1 b2).operand) = decodeTable.map fun f => fillOperand b1 b2 (f 0 0).operand := by
  simp only [decodeTable, List.map_append]
  rfl

/-- What a map over the decoder's rows gives at an opcode: the decoder is total (R108). -/
theorem getElem?_map_decodeTable {α : Type} (g : (Byte → Byte → Instr) → α) (op : Byte) :
    (decodeTable.map g)[op.toNat]? = some (g (decodeOp op)) := by
  have hlen : op.toNat < decodeTable.length := length_decodeTable ▸ op.isLt
  have hrow : decodeOp op = decodeTable[op.toNat] := by
    funext b1 b2
    rw [decodeOp, List.getD_eq_getElem _ _ hlen]
  rw [List.getElem?_map, List.getElem?_eq_getElem hlen, hrow, Option.map_some]

/-- An opcode decodes to an instruction with that opcode (R100, R108). -/
@[simp] theorem opcode_decodeOp (op b1 b2 : Byte) : (decodeOp op b1 b2).opcode = op := by
  have h := congrArg (·[op.toNat]?) ((decodeTable_opcodes b1 b2 0 0).trans decodeTable_opcodes_zero)
  simp only [getElem?_map_decodeTable] at h
  simpa [List.getElem?_range op.isLt] using h

theorem operand_decodeOp (op b1 b2 : Byte) :
    (decodeOp op b1 b2).operand = fillOperand b1 b2 (decodeOp op 0 0).operand := by
  have h := congrArg (·[op.toNat]?) (decodeTable_operands b1 b2)
  simp only [getElem?_map_decodeTable] at h
  exact Option.some.inj h

/-- An instruction is what its opcode decodes to from bytes that leave its operand as it is: the decoder reaches
each row of the opcode map, with every operand value (R103, R106). -/
theorem decodeOp_opcode_of_fillOperand_eq {i : Instr} {b1 b2 : Byte} (h : fillOperand b1 b2 i.operand = i.operand) :
    decodeOp i.opcode b1 b2 = i := by
  cases i <;> (cases h; rfl)

/-! ### Instructions in a byte list -/

/-- The decoder takes as many operand bytes as the opcode says and leaves the rest (R100). -/
theorem decode_cons_append {op : Byte} {bs : List Byte} (h : bs.length = operandCount op) (rest : List Byte) :
    decode (op :: (bs ++ rest)) = .ok (decodeOp op (bs.getD 0 0) (bs.getD 1 0), rest) := by
  have hsize : bs.length ≤ 2 := h ▸ size_le_two _
  unfold decode
  dsimp only
  rw [← h]
  match bs, hsize with
  | [], _ | [_], _ | [_, _], _ => rfl

/-- What the decoder accepts is an opcode, as many operand bytes as the opcode says, and the rest (R100). -/
theorem decode_ok_inv {bytes rest : List Byte} {i : Instr} (h : decode bytes = .ok (i, rest)) :
    ∃ op bs, bs.length = operandCount op ∧ bytes = op :: (bs ++ rest) ∧
      i = decodeOp op (bs.getD 0 0) (bs.getD 1 0) := by
  cases bytes with
  | nil => cases h
  | cons op tail =>
    unfold decode at h
    dsimp only at h
    split at h
    next hn => cases h; exact ⟨op, [], hn.symm, rfl, rfl⟩
    next b1 _ hn => cases h; exact ⟨op, [b1], hn.symm, rfl, rfl⟩
    next b1 b2 _ hn => cases h; exact ⟨op, [b1, b2], hn.symm, rfl, rfl⟩
    next => cases h

/-- An instruction encodes to the bytes it was decoded from. -/
theorem encode_decodeOp {op : Byte} {bs : List Byte} (h : bs.length = operandCount op) :
    encode (decodeOp op (bs.getD 0 0) (bs.getD 1 0)) = op :: bs := by
  have hsize : bs.length ≤ 2 := h ▸ size_le_two _
  rw [encode, opcode_decodeOp, operand_decodeOp, encode_fillOperand, ← operandCount, ← h]
  match bs, hsize with
  | [], _ | [_], _ | [_, _], _ => rfl

/-- The operand bytes of an instruction decode, behind its opcode, to the instruction. -/
theorem decodeOp_operandBytes (i : Instr) :
    decodeOp i.opcode (i.operand.encode.getD 0 0) (i.operand.encode.getD 1 0) = i :=
  decodeOp_opcode_of_fillOperand_eq (fillOperand_encode i.operand)

theorem operandCount_opcode (i : Instr) : operandCount i.opcode = i.operand.size := by
  rw [← size_decodeOp, decodeOp_operandBytes]

/-- Settles O1: an instruction's operand bytes are as many as its opcode says, and decode to it. -/
theorem decodeOfEncodeGivesTheInstruction : Obligations.DecodeOfEncodeGivesTheInstruction := by
  intro i rest _
  have hlen : i.operand.encode.length = operandCount i.opcode := by
    rw [length_operandEncode, operandCount_opcode]
  rw [encode, List.cons_append, decode_cons_append hlen, decodeOp_operandBytes]

/-- Settles O2: what the decoder consumed is the opcode and the operand bytes, which the encoder gives back. -/
theorem encodeOfDecodeGivesTheBytes : Obligations.EncodeOfDecodeGivesTheBytes := by
  intro bytes rest i h
  obtain ⟨op, bs, hlen, rfl, rfl⟩ := decode_ok_inv h
  rw [encode_decodeOp hlen, List.cons_append]

/-- Settles O3: two bytes are enough for every opcode, and every instruction answers its mnemonic's meaning. -/
theorem everyOpcodeDecodesAndRuns : Obligations.EveryOpcodeDecodesAndRuns := by
  intro op b1 b2 s
  have hlen : ([b1, b2].take (operandCount op)).length = operandCount op :=
    List.length_take_of_le (size_le_two _)
  have hdecode := decode_cons_append hlen ([b1, b2].drop (operandCount op))
  rw [List.take_append_drop] at hdecode
  exact ⟨_, _, _, hdecode, opcode_decodeOp _ _ _, exec_eq_meaning _ s⟩

/-! ### The opcode table -/

/-- The table's row of each instruction; JSR's third byte and BRK's padding byte are no part of the encoding
(R102, R104, R106, log entry 10). -/
theorem row_describes (i : Instr) :
    i.row.mnemonic = i.mnemonic ∧ i.row.format = i.format ∧
      i.row.bytes = (encode i).length + (if i.opcode = 0x20 then 1 else 0) ∧
      i.row.pcAdvance = i.row.bytes + (if i.opcode = 0x00 then 1 else 0) := by
  cases i <;> exact ⟨rfl, rfl, rfl, rfl⟩

/-- Settles O5: the row of the opcode is the row of the instruction it decodes to. -/
theorem opcodeTableDescribesTheDecoder : Obligations.OpcodeTableDescribesTheDecoder := by
  refine ⟨by simp only [opcodeTable, List.length_append]; rfl, fun op b1 b2 => ?_⟩
  have h := row_describes (decodeOp op b1 b2)
  rwa [Instr.row, opcode_decodeOp] at h

/-- Settles O4: the decoder evaluates on each word. -/
theorem sampleWordsDecode : Obligations.SampleWordsDecode :=
  ⟨rfl, rfl, rfl, rfl, rfl, rfl, rfl, rfl, rfl⟩

end Sys2Proof.Machine

/-! Proofs. The addressing-mode resolver in numbers, and the order of the accesses of its classes
(40_addressing.md). -/

namespace Sys2Proof.Machine

/-! ## Effective addresses -/

/-! ### Bytes and words of the zero page -/

theorem zeroPage_toNat (z : Byte) : (zeroPage z).toNat = z.toNat := (cat_toNat 0 z).trans (Nat.zero_add _)

theorem stored_zeroPage (s : State) (z : Byte) : s.stored (zeroPage z) = some (Memory.read s.mem z.toNat) := by
  have hz : BitVec.ofNat 16 z.toNat = zeroPage z := by rw [← zeroPage_toNat, BitVec.ofNat_toNat, BitVec.setWidth_eq]
  rw [← hz]
  exact stored_of_ram s (Nat.lt_trans z.isLt (by decide))

theorem addInPage_zeroPage (z k : Byte) : addInPage (zeroPage z) k = zeroPage (z + k) := by
  rw [addInPage, zeroPage, hi_cat, lo_cat, zeroPage]

/-- A pointer in the zero page is the bytes at `p` and `p + 1`, which wraps in the page (R75, R137, R138). -/
theorem peek16Wrap_zeroPage_toNat (s : State) (p : Byte) : (s.peek16Wrap (zeroPage p)).toNat =
    (Memory.read s.mem ((p.toNat + 1) % 256)).toNat * 256 + (Memory.read s.mem p.toNat).toNat := by
  rw [State.peek16Wrap, addInPage_zeroPage]
  exact cat_peek_toNat (stored_zeroPage s p) (stored_zeroPage s (p + 1))

/-! ### Indexed addresses -/

theorem Resolved.ofIndex_ea_toNat (base : Word) (idx : Byte) :
    (Resolved.ofIndex base idx).ea.toNat = (base.toNat + idx.toNat) % 65536 := by
  rw [Resolved.ofIndex, BitVec.toNat_add, BitVec.toNat_setWidth_of_le (by decide)]

/-- `U` is the sum within the page of the base (R138, R139). -/
theorem Resolved.ofIndex_u_toNat (base : Word) (idx : Byte) : (Resolved.ofIndex base idx).u.toNat =
    base.toNat / 256 * 256 + (Resolved.ofIndex base idx).ea.toNat % 256 := by
  rw [Resolved.ofIndex_ea_toNat]
  simp only [Resolved.ofIndex, addInPage, cat_toNat, hi_toNat, BitVec.toNat_add, lo_toNat]
  omega

theorem pagesDiffer_iff (a b : Word) : pagesDiffer a b = true ↔ a.toNat / 256 ≠ b.toNat / 256 := by
  rw [pagesDiffer, decide_eq_true_iff, ne_eq, ← BitVec.toNat_inj, hi_toNat, hi_toNat]

/-- A mode is indexed where it adds an index register to a base of 16 bits (R138, R139, R142). -/
theorem resolve_indexed_iff (m : MemOperand) (s : State) : (resolve m s).indexed = true ↔
    m.format = .absoluteX ∨ m.format = .absoluteY ∨ m.format = .indirectIndexedY := by
  cases m with
  | zp | zpX | zpY | abs | indX => exact iff_of_false Bool.false_ne_true (by simp [MemOperand.format])
  | absX | absY | indY => exact iff_of_true rfl (by simp [MemOperand.format])

theorem resolve_eq_ofIndex {m : MemOperand} {s : State} (h : (resolve m s).indexed = true) :
    ∃ base idx, resolve m s = .ofIndex base idx := by
  cases m with
  | zp | zpX | zpY | abs | indX => cases h
  | absX | absY | indY => exact ⟨_, _, rfl⟩

/-- Settles O14: zero-page sums are of bytes, the indexed modes add in 16 bits, and a pointer is two bytes of the
zero page. -/
theorem effectiveAddresses : Obligations.EffectiveAddresses := by
  intro s z addr
  refine ⟨zeroPage_toNat z, (zeroPage_toNat _).trans (BitVec.toNat_add z s.x),
    (zeroPage_toNat _).trans (BitVec.toNat_add z s.y), rfl, rfl, rfl, Resolved.ofIndex_ea_toNat addr s.x,
    Resolved.ofIndex_ea_toNat addr s.y, ?_, peek16Wrap_zeroPage_toNat s z, Resolved.ofIndex_ea_toNat _ s.y,
    fun m hm => ?_, fun m => resolve_indexed_iff m s, fun m hm => ?_⟩
  · have h := peek16Wrap_zeroPage_toNat (s.read (zeroPage z)) (z + s.x)
    rwa [State.read_mem, BitVec.toNat_add, Nat.mod_add_mod] at h
  · obtain ⟨base, idx, h⟩ := resolve_eq_ofIndex hm
    rw [h]
    exact ⟨Resolved.ofIndex_u_toNat base idx, pagesDiffer_iff _ _⟩
  · rw [Resolved.crossed, hm, Bool.false_and]

/-! ## The accesses of the classes -/

theorem RanWith.shape_trace {s t : State} {l : List BusAccess} (h : RanWith s t l) :
    shape t.trace = shape s.trace ++ shape l := by
  rw [h.1, shape, List.map_append]
  rfl

theorem shape_readTail (m : MemOperand) (s : State) : shape (readTail m s).trace = shape s.trace ++ readLead m s := by
  obtain ⟨l, hl, hs⟩ := RanWith.readTail m s
  rw [hl.shape_trace, hs, readLead]

theorem shape_tailDummy (m : MemOperand) (s : State) :
    shape (tailDummy m s).trace = shape s.trace ++ writeLead m s := by
  obtain ⟨l, hl, hs⟩ := RanWith.tailDummy m s
  rw [hl.shape_trace, hs, writeLead]

theorem shape_read (s : State) (addr : Word) : shape (s.read addr).trace = shape s.trace ++ [readAt addr] :=
  (RanWith.read s addr).shape_trace

theorem shape_write (s : State) (addr : Word) (v : Byte) :
    shape (s.write addr v).trace = shape s.trace ++ [writeAt addr] :=
  (RanWith.write s addr v).shape_trace

/-- Settles O15: each class makes its lead, then the accesses of its own tail at the effective address. -/
theorem operandAccessesComeInOrder : Obligations.OperandAccessesComeInOrder := by
  intro m s v
  refine ⟨?_, ?_, ?_⟩
  · rw [loadState, shape_read, shape_readTail, readLead, List.append_assoc _ _ (ite _ _ _)]
  · rw [writeClass, shape_write, shape_tailDummy, writeLead, List.append_assoc _ _ (ite _ _ _)]
  · rw [modifyState, shape_write, shape_write, shape_read, shape_tailDummy, writeLead]
    simp only [List.append_assoc, List.cons_append, List.nil_append]

end Sys2Proof.Machine

/-! Proofs. The rows of a mnemonic in the opcode table, the rules of the read, write and implied classes, and
the loads, stores and transfers that follow them (40_load_store.md). -/

namespace Sys2Proof.Machine

/-! ## The rows of a mnemonic -/

/-- The rows of a mnemonic in the opcode table, each with its place, in opcode order (R104, R106). -/
def rowsOf (mn : Mnemonic) : List (OpcodeRow × Nat) := opcodeTable.zipIdx.filter fun r => r.1.mnemonic = mn

/-- The Encoding of a row: opcode, format, base cycles and page-crossing penalty (R13). -/
def formOfRow (r : OpcodeRow × Nat) : Byte × Format × Nat × Bool :=
  (BitVec.ofNat 8 r.2, r.1.format, r.1.baseCycles, r.1.pageCrossPenalty)

theorem length_opcodeTable : opcodeTable.length = 256 := by
  obtain ⟨hlen, -⟩ := opcodeTableDescribesTheDecoder
  exact hlen

/-- A row is its mnemonic's and stands at its opcode. -/
theorem row_of_mem_rowsOf {mn : Mnemonic} {r : OpcodeRow × Nat} (h : r ∈ rowsOf mn) :
    opcodeRow (BitVec.ofNat 8 r.2) = r.1 ∧ r.1.mnemonic = mn := by
  obtain ⟨hmem, hmn⟩ := List.mem_filter.mp h
  have hrow : opcodeTable[r.2]? = some r.1 := List.mem_zipIdx_iff_getElem?.mp hmem
  obtain ⟨hlt, -⟩ := List.getElem?_eq_some_iff.mp hrow
  rw [length_opcodeTable] at hlt
  have htoNat : (BitVec.ofNat 8 r.2).toNat = r.2 := Nat.mod_eq_of_lt hlt
  exact ⟨by rw [opcodeRow, htoNat, List.getD_eq_getElem?_getD, hrow, Option.getD_some], of_decide_eq_true hmn⟩

/-- An instruction's row is a row of its mnemonic. -/
theorem row_mem_rowsOf (i : Instr) : (i.row, i.opcode.toNat) ∈ rowsOf i.mnemonic := by
  have hlt : i.opcode.toNat < opcodeTable.length := length_opcodeTable ▸ i.opcode.isLt
  obtain ⟨hmn, -⟩ := row_describes i
  refine List.mem_filter.mpr ⟨List.mem_zipIdx_iff_getElem?.mpr ?_, decide_eq_true hmn⟩
  rw [Instr.row, opcodeRow, List.getD_eq_getElem _ _ hlt]
  exact List.getElem?_eq_getElem hlt

/-- The instructions of a mnemonic are its rows of the opcode table: each row is decoded from its opcode. -/
theorem hasForms_of_rowsOf {mn : Mnemonic} {forms : List (Byte × Format × Nat × Bool)}
    (h : (rowsOf mn).map formOfRow = forms) : HasForms mn forms := by
  subst h
  refine ⟨fun i hi => ?_, fun f hf => ?_⟩
  · obtain ⟨-, hformat, -⟩ := row_describes i
    refine List.mem_map.mpr ⟨_, hi ▸ row_mem_rowsOf i, ?_⟩
    rw [formOfRow, hformat, BitVec.ofNat_toNat, BitVec.setWidth_eq]
  · obtain ⟨r, hr, rfl⟩ := List.mem_map.mp hf
    obtain ⟨hrow, hmn⟩ := row_of_mem_rowsOf hr
    obtain ⟨hmnemonic, -⟩ := row_describes (decodeOp (BitVec.ofNat 8 r.2) 0 0)
    rw [Instr.row, opcode_decodeOp, hrow, hmn] at hmnemonic
    exact ⟨_, hmnemonic.symm, opcode_decodeOp _ 0 0⟩

/-- A mnemonic has these rows, all of one access class. -/
abbrev HasRows (mn : Mnemonic) (c : AccessClass) (forms : List (Byte × Format × Nat × Bool)) : Prop :=
  (rowsOf mn).map formOfRow = forms ∧ ∀ r ∈ rowsOf mn, r.1.accessClass = c

theorem accessClass_of_rowsOf {mn : Mnemonic} {c : AccessClass} (h : ∀ r ∈ rowsOf mn, r.1.accessClass = c)
    {i : Instr} (hi : i.mnemonic = mn) : i.row.accessClass = c :=
  h _ (hi ▸ row_mem_rowsOf i)

/-! ## The operands of an access class -/

/-- The operands the instructions of an access class have (R130). -/
def AccessClass.takes : AccessClass → Operand → Bool
  | .read, .immediate _ | .read, .mem _ | .write, .mem _ | .readModifyWrite, .mem _ => true
  | .accumulator, .accumulator | .implied, .implied | .jam, .implied | .branch, .offset _ => true
  | .jump, .target _ | .jump, .pointer _ | .stackControl, .implied | .stackControl, .targetLow _ => true
  | _, _ => false

theorem accessClass_takes_operand (i : Instr) : AccessClass.takes i.row.accessClass i.operand = true := by
  cases i <;> rfl

theorem operand_of_read {i : Instr} (h : i.row.accessClass = .read) :
    (∃ imm, i.operand = .immediate imm) ∨ ∃ m, i.operand = .mem m := by
  have ht := accessClass_takes_operand i
  rw [h] at ht
  cases ho : i.operand with
  | immediate imm => exact .inl ⟨imm, rfl⟩
  | mem m => exact .inr ⟨m, rfl⟩
  | implied | accumulator | target | targetLow | pointer | offset =>
    rw [ho] at ht
    cases ht

theorem operand_of_write {i : Instr} (h : i.row.accessClass = .write) : ∃ m, i.operand = .mem m := by
  have ht := accessClass_takes_operand i
  rw [h] at ht
  cases ho : i.operand with
  | mem m => exact ⟨m, rfl⟩
  | implied | accumulator | immediate | target | targetLow | pointer | offset =>
    rw [ho] at ht
    cases ht

/-! ## The rules of the access classes -/

/-- An instruction makes as many accesses as the opcode table leaves it (R147), whichever list tells them. -/
theorem RanWith.length_of_exec {i : Instr} {s t : State} {l : List BusAccess} (h : RanWith s t l)
    (he : exec i s = .next t) : l.length = accessesLeft i s := by
  obtain ⟨t', ht', hadv⟩ := exec_advances i s
  obtain rfl : t = t' := Host.Outcome.next.inj (he.symm.trans ht')
  obtain ⟨l', hlen, htrace, -⟩ := hadv.accesses
  rw [List.append_cancel_left (h.1.symm.trans htrace), hlen]

/-- What a read-class instruction does with its operand: an immediate operand is `M` without an access (R133), a
memory operand is read after its lead (R143). -/
theorem onRead_spec {effect : Byte → State → State} {g : Byte → Regs → Regs} (hg : ∀ v, OnRegs (effect v) (g v))
    {i : Instr} (hi : i.row.accessClass = .read) (s : State) :
    (onRead effect i.operand s).regs = g (operandValue i s) s.regs ∧ Stores s (onRead effect i.operand s) [] ∧
    ∃ l, RanWith s (onRead effect i.operand s) l ∧ shape l = readAccesses i s ∧
      ∀ m, i.operand = .mem m → l.getLast? = some (rd (resolve m s).ea (operandValue i s)) := by
  unfold operandValue readAccesses
  obtain ⟨imm, ho⟩ | ⟨m, ho⟩ := operand_of_read hi <;> rw [ho]
  · rw [onRead, hg imm]
    exact ⟨rfl, (Stores.refl s).withRegs _, [], (RanWith.refl s).withRegs _, rfl, nofun⟩
  · obtain ⟨hregs, hstores, l, hran, hshape⟩ := readClass_spec (m := m) hg s
    refine ⟨hregs, hstores, _, hran, ?_, ?_⟩
    · rw [shape, List.map_append, ← shape, hshape]
      rfl
    · rintro m' ⟨⟩
      exact List.getLast?_concat

theorem readRule_of_onRead {mn : Mnemonic} {forms : List (Byte × Format × Nat × Bool)}
    {effect : Byte → State → State} {g : Byte → Regs → Regs} (hrows : HasRows mn .read forms)
    (hmeaning : meaning mn = onRead effect) (hg : ∀ v, OnRegs (effect v) (g v)) : ReadRule mn forms g := by
  obtain ⟨hforms, hclass⟩ := hrows
  refine ⟨hasForms_of_rowsOf hforms, fun i s hi => ?_⟩
  have he : exec i s = .next (onRead effect i.operand s) := by rw [exec_eq_meaning, hi, hmeaning]
  obtain ⟨hregs, hstores, l, hran, hshape, hlast⟩ := onRead_spec hg (accessClass_of_rowsOf hclass hi) s
  exact ⟨_, l, he, hregs, hstores, hran, hshape, hran.length_of_exec he, hlast⟩

theorem writeRule_of_onWrite {mn : Mnemonic} {forms : List (Byte × Format × Nat × Bool)} {value : Regs → Byte}
    (hrows : HasRows mn .write forms) (hmeaning : meaning mn = onWrite fun s => value s.regs) :
    WriteRule mn forms value := by
  obtain ⟨hforms, hclass⟩ := hrows
  refine ⟨hasForms_of_rowsOf hforms, fun i s hi hs => ?_⟩
  obtain ⟨m, ho⟩ := operand_of_write (accessClass_of_rowsOf hclass hi)
  have he : exec i s = .next (writeClass m (value s.regs) s) := by rw [exec_eq_meaning, hi, hmeaning, ho, onWrite]
  obtain ⟨hregs, hstores, l, hran, hshape⟩ := writeClass_spec hs m (value s.regs)
  refine ⟨m, _, l, ho, he, hregs, hstores, hran, hshape, ?_⟩
  rw [← hran.length_of_exec he, List.length_append, List.length_singleton]

theorem impliedRule_of_impliedClass {mn : Mnemonic} {f : Format} {effect : State → State} {g : Regs → Regs}
    (hmeaning : meaning mn = fun _ => impliedClass effect) (hg : OnRegs effect g) : ImpliedRule mn f g :=
  fun i s hi _ => ⟨_, by rw [exec_eq_meaning, hi, hmeaning], impliedClass_spec hg s⟩

theorem plainRule_of_impliedClass {mn : Mnemonic} {opcode : Byte} {effect : State → State} {g : Regs → Regs}
    (hrows : HasRows mn .implied [(opcode, .implied, 2, false)])
    (hmeaning : meaning mn = fun _ => impliedClass effect) (hg : OnRegs effect g) : PlainRule mn opcode g :=
  ⟨hasForms_of_rowsOf hrows.1, impliedRule_of_impliedClass hmeaning hg⟩

/-! ## What a load leaves in the registers -/

/-- `NZ(v)` in numbers (R28, R34). -/
theorem Flags.nz_eq_nzFlags (p : Flags) (v : Byte) : p.nz v = nzFlags p v := by
  have hz : decide (v = 0) = decide (v.toNat = 0) := by simp [← BitVec.toNat_inj]
  have hn : v.getLsbD 7 = decide (128 ≤ v.toNat) := BitVec.msb_eq_decide v
  rw [Flags.nz, nzFlags, hz, hn]

theorem loadA_onRegs (v : Byte) : OnRegs (State.loadA v) (setA v) := fun s => by
  rw [State.loadA, Flags.nz_eq_nzFlags]
  rfl

theorem loadX_onRegs (v : Byte) : OnRegs (State.loadX v) (setX v) := fun s => by
  rw [State.loadX, Flags.nz_eq_nzFlags]
  rfl

theorem loadY_onRegs (v : Byte) : OnRegs (State.loadY v) (setY v) := fun s => by
  rw [State.loadY, Flags.nz_eq_nzFlags]
  rfl

theorem lax_onRegs (v : Byte) : OnRegs (State.lax v) fun q => setA v { q with x := v } := fun s => by
  rw [State.lax, Flags.nz_eq_nzFlags]
  rfl

theorem las_onRegs (v : Byte) :
    OnRegs (State.las v) fun q => setA (v &&& q.sp) { q with x := v &&& q.sp, sp := v &&& q.sp } := fun s => by
  rw [State.las, Flags.nz_eq_nzFlags]
  rfl

/-! ## Loads, stores and transfers -/

/-- Settles O16: the loads are read-class instructions whose effect is a load of registers. -/
theorem loadsTakeTheOperand : Obligations.LoadsTakeTheOperand :=
  ⟨readRule_of_onRead (by decide +kernel) rfl loadA_onRegs,
    readRule_of_onRead (by decide +kernel) rfl loadX_onRegs,
    readRule_of_onRead (by decide +kernel) rfl loadY_onRegs,
    readRule_of_onRead (by decide +kernel) rfl lax_onRegs,
    readRule_of_onRead (by decide +kernel) rfl las_onRegs⟩

/-- Settles O17: the stores are write-class instructions of a byte of the registers. -/
theorem storesWriteTheRegister : Obligations.StoresWriteTheRegister :=
  ⟨writeRule_of_onWrite (by decide +kernel) rfl,
    writeRule_of_onWrite (by decide +kernel) rfl,
    writeRule_of_onWrite (by decide +kernel) rfl,
    writeRule_of_onWrite (by decide +kernel) rfl⟩

/-- Settles O18: a transfer is an implied load of the byte of a register; TXS sets S alone. -/
theorem transfersCopyARegister : Obligations.TransfersCopyARegister :=
  ⟨plainRule_of_impliedClass (by decide +kernel) rfl fun s => loadX_onRegs s.a s,
    plainRule_of_impliedClass (by decide +kernel) rfl fun s => loadY_onRegs s.a s,
    plainRule_of_impliedClass (by decide +kernel) rfl fun s => loadA_onRegs s.x s,
    plainRule_of_impliedClass (by decide +kernel) rfl fun s => loadA_onRegs s.y s,
    plainRule_of_impliedClass (by decide +kernel) rfl fun s => loadX_onRegs s.sp s,
    plainRule_of_impliedClass (by decide +kernel) rfl fun _ => rfl⟩

end Sys2Proof.Machine

/-! Proofs. The arithmetic of AddCarry, Compare and the shifts in numbers, the rules of the read-modify-write and
accumulator classes, and the instructions that follow them (42_alu.md). -/

namespace Sys2Proof.Machine

/-! ## Bits of a byte in numbers -/

theorem getLsbD_seven (v : Byte) : v.getLsbD 7 = decide (128 ≤ v.toNat) := BitVec.msb_eq_decide v

theorem getLsbD_six (v : Byte) : v.getLsbD 6 = decide (64 ≤ v.toNat % 128) := by
  rw [← BitVec.testBit_toNat, Nat.testBit_eq_decide_div_mod_eq, decide_eq_decide]
  omega

theorem getLsbD_zero (v : Byte) : v.getLsbD 0 = decide (v.toNat % 2 = 1) := Nat.testBit_zero v.toNat

theorem flagBit_toNat (b : Bool) {k : Nat} (hk : k < 8) : (flagBit b k).toNat = 2 ^ k * b.toNat := by
  cases b with
  | false => rfl
  | true =>
    rw [flagBit, if_pos rfl, Bool.toNat_true, Nat.mul_one]
    exact BitVec.toNat_twoPow_of_lt hk

/-- A flag put where a byte has no bit is added to it. -/
theorem or_flagBit_eq_add {v : Byte} {k : Nat} (h : v.getLsbD k = false) (b : Bool) :
    v ||| flagBit b k = v + flagBit b k := by
  refine (BitVec.add_eq_or_of_and_eq_zero _ _ ?_).symm
  cases b with
  | false => exact BitVec.and_zero
  | true =>
    refine (BitVec.and_twoPow v k).trans ?_
    rw [h]
    rfl

/-- The complement of a byte, `255 - m` (R231). -/
theorem xor_ff_eq_sub (m : Byte) : m ^^^ 0xFF = 255 - m :=
  BitVec.xor_allOnes.trans (BitVec.allOnes_sub_eq_not m).symm

theorem complement_toNat (m : Byte) : (255 - m).toNat = 255 - m.toNat := by
  rw [← xor_ff_eq_sub]
  exact (congrArg BitVec.toNat BitVec.xor_allOnes).trans BitVec.toNat_not

theorem byte_toInt (v : Byte) : v.toInt = if v.toNat < 128 then (v.toNat : Int) else v.toNat - 256 := by
  rw [BitVec.toInt_eq_toNat_cond]
  congr 1
  exact propext (by omega)

/-- The signed value of the complement is one below the negative. -/
theorem complement_toInt (m : Byte) : (255 - m).toInt = -1 - m.toInt := by
  have hm := m.isLt
  rw [byte_toInt, byte_toInt, complement_toNat]
  split <;> split <;> omega

/-! ## AddCarry, Compare and BIT -/

/-- The sign test of `AddCarry` on the masked word is a comparison of sign bits (R220). -/
theorem addOverflow_eq (a b r : Byte) : addOverflow a b r = decide (a.msb = b.msb ∧ r.msb ≠ a.msb) := by
  have hmask (w : Byte) : w &&& 0x80#8 ≠ 0 ↔ w.msb = true := by
    have h : w &&& 0x80#8 = if w.msb then 0x80#8 else 0 := BitVec.and_twoPow w 7
    rw [h]
    cases w.msb <;> decide
  rw [addOverflow, decide_eq_decide, hmask, BitVec.msb_and, BitVec.msb_xor, BitVec.msb_xor]
  cases a.msb <;> cases b.msb <;> cases r.msb <;> decide

theorem adc_onRegs (m : Byte) : OnRegs (State.adc m) (addEffect m) := fun s => by
  have hres : BitVec.ofNat 8 ((s.a.toNat + m.toNat + s.p.c.toNat) % 256) = addResult s.a m s.p.c :=
    BitVec.eq_of_toNat_eq (Nat.mod_mod _ _)
  rw [State.adc, Flags.nz_eq_nzFlags, Flags.addCarry, addOverflow_eq, ← hres]
  rfl

theorem sbc_onRegs (m : Byte) : OnRegs (State.sbc m) (addEffect (255 - m)) := fun s => by
  rw [State.sbc, xor_ff_eq_sub, adc_onRegs]

theorem Flags.compare_eq_compareFlags (p : Flags) (reg m : Byte) : p.compare reg m = compareFlags p reg m := by
  have hdiff : (reg - m).toNat = (reg.toNat + 256 - m.toNat) % 256 := by
    rw [BitVec.toNat_sub]
    omega
  rw [Flags.compare, getLsbD_seven, hdiff, compareFlags]

theorem bit_onRegs (m : Byte) : OnRegs (State.bit m) fun q =>
    { q with p := { q.p with
        z := decide (q.a &&& m = 0), n := decide (128 ≤ m.toNat), v := decide (64 ≤ m.toNat % 128) } } := fun s => by
  rw [State.bit, Flags.bit, getLsbD_seven, getLsbD_six]
  rfl

/-! ### AddCarry in integers -/

theorem addEffect_a_toNat (m : Byte) (q : Regs) :
    (addEffect m q).a.toNat = (q.a.toNat + m.toNat + q.p.c.toNat) % 256 := Nat.mod_mod _ _

theorem addEffect_c_iff (m : Byte) (q : Regs) :
    (addEffect m q).p.c = true ↔ 256 ≤ q.a.toNat + m.toNat + q.p.c.toNat := decide_eq_true_iff

/-- V says that the signed sum leaves the bytes: only operands of one sign can do so, and the result then has the
other sign (R220, 95_test_vectors.md section 4). -/
theorem addEffect_v_iff (m : Byte) (q : Regs) : (addEffect m q).p.v = true ↔
    q.a.toInt + m.toInt + q.p.c.toNat < -128 ∨ 127 < q.a.toInt + m.toInt + q.p.c.toNat := by
  have hv : (addEffect m q).p.v = true ↔ q.a.msb = m.msb ∧ (addEffect m q).a.msb ≠ q.a.msb := decide_eq_true_iff
  have hc := Bool.toNat_le q.p.c
  have ha := q.a.isLt
  have hm := m.isLt
  rw [hv, byte_toInt, byte_toInt]
  simp only [BitVec.msb_eq_decide, addEffect_a_toNat, ne_eq, decide_eq_decide]
  split <;> split <;> omega

/-! ## The shifts and rotates -/

theorem shiftLeft_eq_aslValue (c : Bool) (v : Byte) : shiftLeft v = aslValue c v := by
  refine BitVec.eq_of_toNat_eq ?_
  rw [shiftLeft, aslValue, BitVec.toNat_shiftLeft, BitVec.toNat_ofNat, Nat.shiftLeft_eq, Nat.mul_comm, Nat.pow_one]

theorem shiftRight_eq_lsrValue (c : Bool) (v : Byte) : shiftRight v = lsrValue c v := by
  refine BitVec.eq_of_toNat_eq ?_
  have hv := v.isLt
  rw [shiftRight, lsrValue, BitVec.toNat_ushiftRight, BitVec.toNat_ofNat, Nat.shiftRight_one]
  omega

theorem rotateLeft_eq_rolValue (c : Bool) (v : Byte) : rotateLeft c v = rolValue c v := by
  have hlow : (v <<< 1).getLsbD 0 = false := by rw [BitVec.getLsbD_shiftLeft]; rfl
  refine BitVec.eq_of_toNat_eq ?_
  rw [rotateLeft, or_flagBit_eq_add hlow, BitVec.toNat_add, flagBit_toNat c (by decide), ← shiftLeft,
    shiftLeft_eq_aslValue c]
  simp only [aslValue, rolValue, BitVec.toNat_ofNat]
  omega

theorem rotateRight_eq_rorValue (c : Bool) (v : Byte) : rotateRight c v = rorValue c v := by
  have hhigh : (v >>> 1).getLsbD 7 = false := by
    rw [BitVec.getLsbD_ushiftRight]
    exact BitVec.getLsbD_of_ge v _ (by decide)
  refine BitVec.eq_of_toNat_eq ?_
  rw [rotateRight, or_flagBit_eq_add hhigh, BitVec.toNat_add, flagBit_toNat c (by decide), ← shiftRight,
    shiftRight_eq_lsrValue c]
  simp only [lsrValue, rorValue, BitVec.toNat_ofNat]
  omega

theorem flagsNZ_onRegs (m r : Byte) : OnRegs (State.flagsNZ m r) (setNZ r) := fun s => by
  rw [State.flagsNZ, Flags.nz_eq_nzFlags]
  rfl

theorem outHigh_onRegs (m r : Byte) : OnRegs (State.outHigh m r) fun q => setNZ r (highOut m q) := fun s => by
  rw [State.outHigh, Flags.nz_eq_nzFlags, getLsbD_seven]
  rfl

theorem outLow_onRegs (m r : Byte) : OnRegs (State.outLow m r) fun q => setNZ r (lowOut m q) := fun s => by
  rw [State.outLow, Flags.nz_eq_nzFlags, getLsbD_zero]
  rfl

/-! ## The rules of the classes that shift -/

/-- A mnemonic whose memory form is of the read-modify-write class (R145). -/
theorem modifyRule_of_modifyClass {mn : Mnemonic} {result : Bool → Byte → Byte}
    {effect : Byte → Byte → State → State} {g : Byte → Byte → Regs → Regs}
    (hmeaning : ∀ m, meaning mn (.mem m) = modifyClass m result effect) (hg : ∀ m r, OnRegs (effect m r) (g m r)) :
    ModifyRule mn result g := by
  intro i s m hi ho hs
  have he : exec i s = .next (modifyClass m result effect s) := by rw [exec_eq_meaning, hi, ho, hmeaning]
  obtain ⟨hregs, hstores, l, hran, hshape⟩ := modifyClass_spec (m := m) (result := result) hg hs
  refine ⟨_, l, he, hregs, hstores, hran, hshape, ?_⟩
  rw [← hran.length_of_exec he, List.length_append]
  rfl

theorem operand_of_format_accumulator {i : Instr} (h : i.format = .accumulator) : i.operand = .accumulator := by
  rw [Instr.format] at h
  cases ho : i.operand with
  | accumulator => rfl
  | mem m =>
    rw [ho] at h
    cases m <;> cases h
  | implied | immediate | target | targetLow | pointer | offset =>
    rw [ho] at h
    cases h

/-- What a shift does: its memory form is of the read-modify-write class, and its accumulator form leaves the same
result in A and the same flags (R245 to R248). -/
structure ShiftRule (mn : Mnemonic) (value : Bool → Byte → Byte) (out : Byte → Regs → Regs) : Prop where
  memory : ModifyRule mn value fun m r q => setNZ r (out m q)
  accumulator : ImpliedRule mn .accumulator fun q => setA (value q.p.c q.a) (out q.a q)

theorem accumulate_onRegs {result : Bool → Byte → Byte} {flags : Byte → Byte → State → State}
    {out : Byte → Regs → Regs} (hflags : ∀ m r, OnRegs (flags m r) fun q => setNZ r (out m q)) :
    OnRegs (fun s => State.accumulate (result s.p.c s.a) flags s)
      fun q => setA (result q.p.c q.a) (out q.a q) := fun s => by
  dsimp only [State.accumulate]
  rw [hflags]
  rfl

theorem shiftRule_of_onShift {mn : Mnemonic} {shift value : Bool → Byte → Byte}
    {flags : Byte → Byte → State → State} {out : Byte → Regs → Regs} (hmeaning : meaning mn = onShift shift flags)
    (hvalue : ∀ c v, shift c v = value c v) (hflags : ∀ m r, OnRegs (flags m r) fun q => setNZ r (out m q)) :
    ShiftRule mn value out := by
  obtain rfl : shift = value := funext₂ hvalue
  refine ⟨modifyRule_of_modifyClass (fun m => by rw [hmeaning]; rfl) hflags, fun i s hi hf => ?_⟩
  have he : exec i s = .next (impliedClass (fun s => State.accumulate (shift s.p.c s.a) flags s) s) := by
    rw [exec_eq_meaning, hi, hmeaning, operand_of_format_accumulator hf, onShift]
  exact ⟨_, he, impliedClass_spec (accumulate_onRegs hflags) s⟩

theorem asl_shiftRule : ShiftRule .ASL aslValue highOut :=
  shiftRule_of_onShift rfl shiftLeft_eq_aslValue outHigh_onRegs

theorem lsr_shiftRule : ShiftRule .LSR lsrValue lowOut :=
  shiftRule_of_onShift rfl shiftRight_eq_lsrValue outLow_onRegs

theorem rol_shiftRule : ShiftRule .ROL rolValue highOut :=
  shiftRule_of_onShift rfl rotateLeft_eq_rolValue outHigh_onRegs

theorem ror_shiftRule : ShiftRule .ROR rorValue lowOut :=
  shiftRule_of_onShift rfl rotateRight_eq_rorValue outLow_onRegs

/-! ## Arithmetic, logic, compares, increments and shifts -/

/-- Settles O19: the adds and subtracts are read-class instructions of `AddCarry`, and the complement of `M` turns
its sum into the difference. -/
theorem addAndSubtractAreExact : Obligations.AddAndSubtractAreExact := by
  refine ⟨readRule_of_onRead (by decide +kernel) rfl adc_onRegs,
    readRule_of_onRead (by decide +kernel) rfl sbc_onRegs,
    readRule_of_onRead (by decide +kernel) rfl sbc_onRegs,
    fun m q => ⟨⟨addEffect_a_toNat m q, addEffect_v_iff m q⟩, ?_, ?_, ?_⟩⟩
  · rw [addEffect_a_toNat, complement_toNat]
    have hm := m.isLt
    omega
  · rw [addEffect_c_iff, complement_toNat]
    have hm := m.isLt
    omega
  · rw [addEffect_v_iff, complement_toInt]
    omega

/-- Settles O22: the memory forms are read-modify-write instructions. -/
theorem memoryModifyWritesTheResult : Obligations.MemoryModifyWritesTheResult :=
  ⟨hasForms_of_rowsOf (by decide +kernel), modifyRule_of_modifyClass (fun _ => rfl) flagsNZ_onRegs,
    hasForms_of_rowsOf (by decide +kernel), modifyRule_of_modifyClass (fun _ => rfl) flagsNZ_onRegs,
    asl_shiftRule.memory, lsr_shiftRule.memory, rol_shiftRule.memory, ror_shiftRule.memory⟩

/-- Settles O20: the logic instructions are read-class instructions that load A. -/
theorem logicCombinesWithTheAccumulator : Obligations.LogicCombinesWithTheAccumulator :=
  ⟨readRule_of_onRead (by decide +kernel) rfl fun m s => loadA_onRegs (s.a &&& m) s,
    readRule_of_onRead (by decide +kernel) rfl fun m s => loadA_onRegs (s.a ||| m) s,
    readRule_of_onRead (by decide +kernel) rfl fun m s => loadA_onRegs (s.a ^^^ m) s⟩

/-- Settles O21: the compares and BIT are read-class instructions that set P alone. -/
theorem comparesWriteOnlyFlags : Obligations.ComparesWriteOnlyFlags :=
  ⟨readRule_of_onRead (by decide +kernel) rfl fun m s =>
      congrArg s.setP (Flags.compare_eq_compareFlags s.p s.a m),
    readRule_of_onRead (by decide +kernel) rfl fun m s =>
      congrArg s.setP (Flags.compare_eq_compareFlags s.p s.x m),
    readRule_of_onRead (by decide +kernel) rfl fun m s =>
      congrArg s.setP (Flags.compare_eq_compareFlags s.p s.y m),
    readRule_of_onRead (by decide +kernel) rfl bit_onRegs⟩

/-- Settles O23: the accumulator form of a shift gives its memory form's result and flags. -/
theorem accumulatorShifts : Obligations.AccumulatorShifts :=
  ⟨hasForms_of_rowsOf (by decide +kernel), asl_shiftRule.accumulator,
    hasForms_of_rowsOf (by decide +kernel), lsr_shiftRule.accumulator,
    hasForms_of_rowsOf (by decide +kernel), rol_shiftRule.accumulator,
    hasForms_of_rowsOf (by decide +kernel), ror_shiftRule.accumulator⟩

/-- Settles O24: the steps are implied loads of the register plus or minus one. -/
theorem indexStepsWrap : Obligations.IndexStepsWrap := by
  simp only [Obligations.IndexStepsWrap, ← byte_add_one, ← byte_sub_one]
  exact ⟨plainRule_of_impliedClass (by decide +kernel) rfl fun s => loadX_onRegs (s.x + 1) s,
    plainRule_of_impliedClass (by decide +kernel) rfl fun s => loadY_onRegs (s.y + 1) s,
    plainRule_of_impliedClass (by decide +kernel) rfl fun s => loadX_onRegs (s.x - 1) s,
    plainRule_of_impliedClass (by decide +kernel) rfl fun s => loadY_onRegs (s.y - 1) s⟩

end Sys2Proof.Machine

/-! Proofs. The stack, flag and no-operation instructions (43_stack_flags_nop.md). -/

namespace Sys2Proof.Machine

/-! ## Pushes and pulls -/

/-- A push instruction: the discarded read of the implied mode, then one byte of the registers to the stack (R78,
R270, R271). -/
theorem impliedClass_push_spec {s : State} (hs : s.StorageOk) (value : Regs → Byte) :
    (impliedClass (fun s => s.push (value s.regs)) s).regs = { s.regs with sp := s.sp - 1 } ∧
    Stores s (impliedClass (fun s => s.push (value s.regs)) s) [(stackPage s.sp, value s.regs)] ∧
    RanWith s (impliedClass (fun s => s.push (value s.regs)) s)
      [rd s.pc (s.peek s.pc), wr (stackPage s.sp) (value s.regs)] :=
  ⟨rfl, (Stores.read s s.pc).trans (Stores.write (s := s.read s.pc) hs.1 _ _) (region_read s s.pc),
    (RanWith.read s s.pc).trans (RanWith.push (s.read s.pc) _)⟩

/-- What a pull instruction does after the discarded read of the implied mode: the discarded read at S, then the
pull of a byte for `after` (R272, R273). -/
def pullThen (after : Byte → State → State) (s : State) : State :=
  let s := s.read (stackPage s.sp)
  after s.peekPull s.pull

/-- A pull instruction: three reads, the last of the RAM byte above S, which `after` puts into the registers. -/
theorem impliedClass_pullThen_spec {after : Byte → State → State} {g : Byte → Regs → Regs}
    (hafter : ∀ v, OnRegs (after v) (g v)) (s : State) :
    ∃ v l, s.stored (stackPage (s.sp + 1)) = some v ∧
      (impliedClass (pullThen after) s).regs = g v { s.regs with sp := s.sp + 1 } ∧
      Stores s (impliedClass (pullThen after) s) [] ∧ RanWith s (impliedClass (pullThen after) s) l ∧
      shape l = [readAt s.pc, readAt (stackPage s.sp), readAt (stackPage (s.sp + 1))] ∧
      (impliedClass (pullThen after) s).busLatch = v := by
  have hran := ((RanWith.read s s.pc).trans (RanWith.read _ (stackPage s.sp))).trans (RanWith.pull _)
  rw [impliedClass, pullThen, hafter, peekPull_eq]
  exact ⟨_, _, stored_stackPage s (s.sp + 1), rfl, fun _ => rfl, hran.withRegs _, rfl, peekPull_eq _⟩

/-- An instruction that writes P alone (R26). -/
theorem setP_onRegs (set : Flags → Flags) : OnRegs (fun s => s.setP (set s.p)) fun q => { q with p := set q.p } :=
  fun _ => rfl

/-- Settles O25: a push instruction stores the byte of A or the image of P. -/
theorem pushInstructions : Obligations.PushInstructions := by
  refine ⟨hasForms_of_rowsOf (by decide +kernel), hasForms_of_rowsOf (by decide +kernel), ?_⟩
  rintro i s v hs (⟨hi, rfl⟩ | ⟨hi, rfl⟩)
  · exact ⟨_, by rw [exec_eq_meaning, hi]; rfl, impliedClass_push_spec hs Regs.a⟩
  · rw [← pushImage_true]
    exact ⟨_, by rw [exec_eq_meaning, hi]; rfl, impliedClass_push_spec hs fun q => q.p.pushImage true⟩

/-- Settles O26: the byte pulled is loaded into A or, by SetP, into the flags. -/
theorem pullInstructions : Obligations.PullInstructions := by
  refine ⟨hasForms_of_rowsOf (by decide +kernel), hasForms_of_rowsOf (by decide +kernel), ?_⟩
  rintro i s (hi | hi) <;> rw [exec_eq_meaning, hi]
  · obtain ⟨v, l, hstored, hregs, hrest⟩ := impliedClass_pullThen_spec loadA_onRegs s
    exact ⟨_, v, l, rfl, hstored, hregs, hrest⟩
  · obtain ⟨v, l, hstored, hregs, hrest⟩ :=
      impliedClass_pullThen_spec (fun v => setP_onRegs fun _ => Flags.ofByte v) s
    exact ⟨_, v, l, rfl, hstored, hregs, hrest⟩

/-! ## Flags -/

/-- Settles O27: each is an implied instruction that sets one field of P. -/
theorem flagInstructions : Obligations.FlagInstructions :=
  ⟨plainRule_of_impliedClass (by decide +kernel) rfl (setP_onRegs fun p => { p with c := false }),
    plainRule_of_impliedClass (by decide +kernel) rfl (setP_onRegs fun p => { p with c := true }),
    plainRule_of_impliedClass (by decide +kernel) rfl (setP_onRegs fun p => { p with i := false }),
    plainRule_of_impliedClass (by decide +kernel) rfl (setP_onRegs fun p => { p with i := true }),
    plainRule_of_impliedClass (by decide +kernel) rfl (setP_onRegs fun p => { p with d := false }),
    plainRule_of_impliedClass (by decide +kernel) rfl (setP_onRegs fun p => { p with d := true }),
    plainRule_of_impliedClass (by decide +kernel) rfl (setP_onRegs fun p => { p with v := false })⟩

/-! ## NOP -/

theorem operand_of_implied {i : Instr} (h : i.row.accessClass = .implied) : i.operand = .implied := by
  have ht := accessClass_takes_operand i
  rw [h] at ht
  cases ho : i.operand with
  | implied => rfl
  | accumulator | immediate | mem | target | targetLow | pointer | offset =>
    rw [ho] at ht
    cases ht

/-- A NOP is of the implied class in its implied form and of the read class in every other (R373, R374). -/
theorem accessClass_of_nop {i : Instr} (hi : i.mnemonic = .NOP) :
    i.row.accessClass = if i.format = .implied then .implied else .read := by
  have htable : ∀ r ∈ rowsOf .NOP, r.1.accessClass = if r.1.format = .implied then .implied else .read := by
    decide +kernel
  obtain ⟨-, hformat, -⟩ := row_describes i
  rw [← hformat]
  exact htable _ (hi ▸ row_mem_rowsOf i)

/-- An implied NOP makes the discarded read of its mode alone (R281, R373). -/
theorem exec_nop_implied {i : Instr} (hi : i.mnemonic = .NOP) (ho : i.operand = .implied) (s : State) :
    exec i s = .next (impliedClass id s) := by
  rw [exec_eq_meaning, hi, ho, meaning, onNop]

/-- A NOP of the read class discards `M` (R374). -/
theorem exec_nop_read {i : Instr} (hi : i.mnemonic = .NOP) (hclass : i.row.accessClass = .read) (s : State) :
    exec i s = .next (onRead State.discard i.operand s) := by
  rw [exec_eq_meaning, hi]
  obtain ⟨imm, ho⟩ | ⟨m, ho⟩ := operand_of_read hclass <;> rw [ho] <;> rfl

theorem id_onRegs : OnRegs id id := fun _ => rfl

/-- Settles O28: an implied NOP is an implied instruction, any other a read-class one, and neither has an effect. -/
theorem nopsOnlyAccess : Obligations.NopsOnlyAccess := by
  refine ⟨⟨hasForms_of_rowsOf (by decide +kernel), fun i s hi => ?_⟩, fun i s hi hf => ?_, fun i s m hi ho => ?_⟩
  · have hclass := accessClass_of_nop hi
    split at hclass
    · have ho := operand_of_implied hclass
      have he := exec_nop_implied hi ho s
      obtain ⟨hregs, hstores, hran⟩ := impliedClass_spec id_onRegs s
      exact ⟨_, _, he, hregs, hstores, hran, by rw [readAccesses, ho]; rfl, hran.length_of_exec he,
        fun _ hm => nomatch ho.symm.trans hm⟩
    · have he := exec_nop_read hi hclass s
      obtain ⟨hregs, hstores, l, hran, hshape, hlast⟩ :=
        onRead_spec (effect := State.discard) (g := fun _ q => q) (fun _ _ => rfl) hclass s
      exact ⟨_, l, he, hregs, hstores, hran, hshape, hran.length_of_exec he, hlast⟩
  · have hclass := accessClass_of_nop hi
    rw [if_pos hf] at hclass
    exact ⟨_, exec_nop_implied hi (operand_of_implied hclass) s, impliedClass_spec id_onRegs s⟩
  · rw [exec_eq_meaning, hi, ho]
    rfl

end Sys2Proof.Machine

/-! Proofs. Branches, jumps, subroutine calls and returns, and the entry sequence of BRK (44_control.md). -/

namespace Sys2Proof.Machine

/-! ## What accesses leave as it was -/

theorem RanWith.region_eq {s t : State} {l : List BusAccess} (h : RanWith s t l) (addr : Word) :
    t.region addr = s.region addr := by
  obtain ⟨-, -, -, -, hrom, hram, -⟩ := h
  rw [State.region, State.region, hrom, hram]

theorem RanWith.stores_nil {s t : State} {l : List BusAccess} (h : RanWith s t l) (hmem : t.mem = s.mem) :
    Stores s t [] := by
  obtain ⟨-, -, -, -, hrom, hram, -⟩ := h
  exact Stores.of_mem hmem hrom hram

/-! ## Branches -/

/-- The target of a branch is PC plus the signed offset modulo 65536 (R9, R300). -/
theorem add_sext_toNat (w : Word) (off : Byte) :
    ((w + sext off).toNat : Int) = ((w.toNat : Int) + off.toInt) % 65536 := by
  have hsext : (sext off).toNat = (off.toInt % 65536).toNat := BitVec.toNat_ofInt off.toInt
  rw [BitVec.toNat_add, hsext]
  omega

theorem branch_mem (s : State) (cond : Bool) (off : Byte) : (s.branch cond off).mem = s.mem := by
  unfold State.branch
  dsimp only
  split
  · split <;> rfl
  · rfl

/-- A taken branch reads at PC and, where the target is in another page, in the page it leaves (R300). -/
theorem RanWith.branch_true (s : State) (off : Byte) : ∃ l, RanWith s (s.branch true off) l ∧
    shape l = readAt s.pc :: (if (s.pc + sext off).toNat / 256 = s.pc.toNat / 256 then []
      else [readAt (cat (hi s.pc) (lo (s.pc + sext off)))]) := by
  unfold State.branch
  dsimp only
  rw [if_pos rfl]
  split
  next hpage =>
    rw [if_neg ((pagesDiffer_iff _ _).mp hpage)]
    exact ⟨_, (RanWith.read s _).trans (RanWith.read _ _), rfl⟩
  next hpage =>
    rw [if_pos (not_not.mp (mt (pagesDiffer_iff _ _).mpr hpage))]
    exact ⟨_, RanWith.read s _, rfl⟩

theorem operand_of_branch {i : Instr} (h : i.row.accessClass = .branch) : ∃ off, i.operand = .offset off := by
  have ht := accessClass_takes_operand i
  rw [h] at ht
  cases ho : i.operand with
  | offset off => exact ⟨off, rfl⟩
  | implied | accumulator | immediate | mem | target | targetLow | pointer =>
    rw [ho] at ht
    cases ht

theorem branchRule_of_onOffset {mn : Mnemonic} {opcode : Byte} {cond : Flags → Bool}
    (hrows : HasRows mn .branch [(opcode, .relative, 2, false)]) (hmeaning : meaning mn = onOffset cond) :
    BranchRule mn opcode cond := by
  obtain ⟨hforms, hclass⟩ := hrows
  refine ⟨hasForms_of_rowsOf hforms, fun i s hi => ?_⟩
  obtain ⟨off, ho⟩ := operand_of_branch (accessClass_of_rowsOf hclass hi)
  have he : exec i s = .next (s.branch (cond s.p) off) := by rw [exec_eq_meaning, hi, hmeaning, ho, onOffset]
  refine ⟨off, _, ho, he, ?_⟩
  cases cond s.p with
  | false => exact ⟨Stores.refl s, fun _ => ⟨rfl, RanWith.refl s⟩, nofun⟩
  | true =>
    obtain ⟨l, hran, hshape⟩ := RanWith.branch_true s off
    exact ⟨hran.stores_nil (branch_mem s true off), nofun,
      fun _ => ⟨add_sext_toNat s.pc off, branch_regs s true off, l, hran, hshape⟩⟩

/-- Settles O29: each branch tests one flag. -/
theorem branchesMoveOnlyPc : Obligations.BranchesMoveOnlyPc :=
  ⟨branchRule_of_onOffset (by decide +kernel) rfl,
    branchRule_of_onOffset (by decide +kernel) rfl,
    branchRule_of_onOffset (by decide +kernel) rfl,
    branchRule_of_onOffset (by decide +kernel) rfl,
    branchRule_of_onOffset (by decide +kernel) rfl,
    branchRule_of_onOffset (by decide +kernel) rfl,
    branchRule_of_onOffset (by decide +kernel) rfl,
    branchRule_of_onOffset (by decide +kernel) rfl⟩

/-! ## The pushes of an entry and of JSR -/

theorem byte_sub_one_one (v : Byte) : v - 1 - 1 = v - 2 := BitVec.sub_sub v 1 1

theorem Stores.push {s : State} (hs : s.StorageOk) (v : Byte) : Stores s (s.push v) [(stackPage s.sp, v)] :=
  Stores.write hs.1 _ v

/-- The two pushes of PC, high byte first (R310, R407). -/
def State.pushPc (s : State) : State := (s.push (hi s.pc)).push (lo s.pc)

@[simp] theorem pushPc_sp (s : State) : s.pushPc.sp = s.sp - 2 := byte_sub_one_one s.sp

@[simp] theorem pushPc_p (s : State) : s.pushPc.p = s.p := rfl

theorem pushPc_regs (s : State) : s.pushPc.regs = { s.regs with sp := s.sp - 2 } := by
  rw [← byte_sub_one_one]
  rfl

theorem RanWith.pushPc (s : State) :
    RanWith s s.pushPc [wr (stackPage s.sp) (hi s.pc), wr (stackPage (s.sp - 1)) (lo s.pc)] :=
  (RanWith.push s _).trans (RanWith.push _ _)

theorem Keeps.pushPc (s : State) : Keeps s s.pushPc := (Keeps.push s _).trans (Keeps.push _ _)

theorem Stores.pushPc {s : State} (hs : s.StorageOk) :
    Stores s s.pushPc [(stackPage s.sp, hi s.pc), (stackPage (s.sp - 1), lo s.pc)] :=
  (Stores.push hs _).trans (Stores.push ((Keeps.push s _).1 hs) _) fun _ => rfl

/-! ## The entry sequence -/

/-- A state with other interrupt inputs: what the choice of a vector leaves (R409). -/
def State.withLines (s : State) (lines : Lines) : State := { s with lines := lines }

@[simp] theorem withLines_sp (s : State) (lines : Lines) : (s.withLines lines).sp = s.sp := rfl
@[simp] theorem withLines_p (s : State) (lines : Lines) : (s.withLines lines).p = s.p := rfl
@[simp] theorem withLines_ticks (s : State) (lines : Lines) : (s.withLines lines).ticks = s.ticks := rfl
@[simp] theorem withLines_regs (s : State) (lines : Lines) : (s.withLines lines).regs = s.regs := rfl

/-- The interrupt inputs take no part in an access beyond the calls it brings them (R421). -/
theorem RanWith.withLines {s t : State} {l : List BusAccess} (h : RanWith s t l) (lines : Lines) :
    RanWith (s.withLines lines) (t.withLines (lines.signals (s.ticks.take l.length).flatten)) l := by
  obtain ⟨htrace, hlatch, -, hrest⟩ := h
  exact ⟨htrace, hlatch, rfl, hrest⟩

/-- The last three cycles of an entry: the push of the status image, then the two reads of the vector (R407). -/
def State.enterVector (s : State) (brk : Bool) (vec : Word) : State :=
  (s.push (s.p.pushImage brk)).maskIrq.jumpVector vec

/-- BRK is the fetch of its padding byte, the pushes of PC, the choice of the vector by the interrupt inputs as they
then are, and the entry through it (R312, R409). -/
theorem brk_eq (s : State) : s.brk =
    (s.fetch.pushPc.withLines { s.fetch.pushPc.lines with nmiPending := false }).enterVector true
      (if s.fetch.pushPc.lines.nmiPending then 0xFFFA else 0xFFFE) := rfl

section
variable {s : State} {brk : Bool} {vec : Word} {l h : Byte}

theorem Stores.enterVector (hs : s.StorageOk) :
    Stores s (s.enterVector brk vec) [(stackPage s.sp, s.p.pushImage brk)] := Stores.push hs _

theorem stored_pushImage_rom (hvec : 0x8000 ≤ vec.toNat) :
    (s.push (s.p.pushImage brk)).maskIrq.stored vec = s.stored vec :=
  ((Keeps.push s _).trans (Keeps.maskIrq _)).stored_rom hvec

variable (hvec : 0x8000 ≤ vec.toNat) (hvec' : 0x8000 ≤ (vec + 1).toNat) (hl : s.stored vec = some l)
  (hh : s.stored (vec + 1) = some h)
include hvec hvec' hl hh

theorem RanWith.enterVector : RanWith s (s.enterVector brk vec)
    [wr (stackPage s.sp) (s.p.pushImage brk), rd vec l, rd (vec + 1) h] :=
  (RanWith.push s _).trans (RanWith.jumpVector (s := (s.push (s.p.pushImage brk)).maskIrq)
    ((stored_pushImage_rom hvec).trans hl) ((stored_pushImage_rom hvec').trans hh))

theorem enterVector_regs : (s.enterVector brk vec).regs =
    { s.regs with sp := s.sp - 1, p := { s.p with i := true }, pc := cat h l } := by
  rw [State.enterVector, jumpVector_regs,
    jumpVector_pc ((stored_pushImage_rom hvec).trans hl) ((stored_pushImage_rom hvec').trans hh)]
  rfl

end

theorem region_rom_hook (s : State) {addr : Word} (h : 0x8000 ≤ addr.toNat) : (s.region addr).hook = none := by
  rw [region_rom s h]
  rfl

/-- The accesses of an entry after its discarded reads use up no hook answer. -/
theorem windowReads_entry (s : State) {vec : Word} (hvec : 0x8000 ≤ vec.toNat) (hvec' : 0x8000 ≤ (vec + 1).toNat)
    (a b c : Word) (u v w l h : Byte) :
    s.windowReads [wr a u, wr b v, wr c w, rd vec l, rd (vec + 1) h] = 0 := by
  have hvector : s.windowReads [rd vec l, rd (vec + 1) h] = 0 := windowReads_eq_zero fun e he => by
    obtain rfl | rfl : e = readAt vec ∨ e = readAt (vec + 1) := by simpa [shape] using he
    · exact region_rom_hook s hvec
    · exact region_rom_hook s hvec'
  exact hvector

/-- An entry without its discarded reads (R407). -/
theorem enters_enterVector {s : State} (hs : s.StorageOk) (lines : Lines) (brk : Bool) {vec : Word}
    (hvec : 0x8000 ≤ vec.toNat) (hvec' : 0x8000 ≤ (vec + 1).toNat) :
    Enters s ((s.pushPc.withLines lines).enterVector brk vec) [] s.pc brk vec := by
  obtain ⟨l, hl⟩ : ∃ l, s.stored vec = some l := ⟨_, stored_rom s hvec⟩
  obtain ⟨h, hh⟩ : ∃ h, s.stored (vec + 1) = some h := ⟨_, stored_rom s hvec'⟩
  have hl' : (s.pushPc.withLines lines).stored vec = some l := ((Keeps.pushPc s).stored_rom hvec).trans hl
  have hh' : (s.pushPc.withLines lines).stored (vec + 1) = some h := ((Keeps.pushPc s).stored_rom hvec').trans hh
  have hran := (RanWith.pushPc s).trans
    ((RanWith.enterVector (brk := brk) hvec hvec' hl' hh').withLines s.pushPc.lines)
  have hstores : Stores s ((s.pushPc.withLines lines).enterVector brk vec) _ :=
    (Stores.pushPc hs).trans (t := s.pushPc.withLines lines) (Stores.enterVector ((Keeps.pushPc s).1 hs))
      fun _ => rfl
  have hregs := enterVector_regs (brk := brk) hvec hvec' hl' hh'
  rw [withLines_sp, withLines_p, pushPc_sp, pushPc_p] at hran hstores hregs
  rw [withLines_regs, pushPc_regs, BitVec.sub_sub] at hregs
  obtain ⟨htrace, hlatch, -, -, hrom, hram, -, -, hreads, hcount⟩ := hran
  have hwindow := windowReads_entry s hvec hvec' (stackPage s.sp) (stackPage (s.sp - 1)) (stackPage (s.sp - 2))
    (hi s.pc) (lo s.pc) (s.p.pushImage brk) l h
  refine ⟨[], l, h, hl, hh, hregs, ?_, rfl, hlatch, ?_, ?_, hstores, hrom, hram⟩
  · rw [List.append_nil]
    exact htrace
  · exact hreads.trans (congrArg s.hookReads.drop hwindow)
  · exact hcount.trans (congrArg (s.hookCount + ·) hwindow)

/-- Discarded reads before an entry come first in its accesses; they leave PC at the return address (R407). -/
theorem Enters.of_lead {s u t : State} {d : List BusAccess} {ret vec : Word} {brk : Bool}
    (h : Enters u t [] ret brk vec) (hlead : RanWith s u d) (hmem : u.mem = s.mem)
    (hregs : u.regs = { s.regs with pc := ret }) : Enters s t (shape d) ret brk vec := by
  have hsp : u.sp = s.sp := congrArg Regs.sp hregs
  have hp : u.p = s.p := congrArg Regs.p hregs
  have hstores := hlead.stores_nil hmem
  obtain ⟨d', l, h, hl, hh, tregs, ttrace, tshape, tlatch, treads, tcount, tstores, trom, tram⟩ := h
  obtain rfl : d' = [] := List.map_eq_nil_iff.mp tshape
  have hregion := hlead.region_eq
  obtain ⟨htrace, -, -, -, hrom, hram, -, -, hreads, hcount⟩ := hlead
  rw [hsp, hp] at tregs ttrace tstores
  refine ⟨d, l, h, (hstores vec).symm.trans hl, (hstores _).symm.trans hh, ?_, ?_, rfl, tlatch, ?_, ?_,
    hstores.trans tstores hregion, trom.trans hrom, tram.trans hram⟩
  · rw [tregs, hregs]
  · rw [ttrace, htrace, List.append_nil]
  · exact treads.trans hreads
  · exact tcount.trans hcount

/-- BRK's one discarded read is the fetch of its padding byte (R312). -/
theorem fetch_enters {s : State} (hs : s.StorageOk) (lines : Lines) (brk : Bool) {vec : Word}
    (hvec : 0x8000 ≤ vec.toNat) (hvec' : 0x8000 ≤ (vec + 1).toNat) :
    Enters s ((s.fetch.pushPc.withLines lines).enterVector brk vec) [readAt s.pc] (s.pc + 1) brk vec :=
  Enters.of_lead (enters_enterVector (s := s.fetch) hs lines brk hvec hvec') (RanWith.fetch s) rfl rfl

/-! ### BRK -/

theorem Ran.lines_eq {s t : State} {n : Nat} (h : Ran s t n) : t.lines = linesAfter s n := by
  obtain ⟨l, rfl, -, -, hlines, -⟩ := h
  exact hlines

theorem Ran.ticks_eq {s t : State} {n : Nat} (h : Ran s t n) : t.ticks = s.ticks.drop n := by
  obtain ⟨l, rfl, -, -, -, hticks, -⟩ := h
  exact hticks

theorem Ran.counts_eq {s t : State} {n : Nat} (h : Ran s t n) :
    t.cycles = s.cycles ∧ t.cyclesTotal = s.cyclesTotal := by
  obtain ⟨-, -, -, -, -, -, -, -, hcycles, htotal, -⟩ := h
  exact ⟨hcycles, htotal⟩

theorem Ran.enterVector (s : State) (brk : Bool) (vec : Word) : Ran s (s.enterVector brk vec) 3 :=
  (Ran.push s _).trans (Ran.jumpVector (s.push _).maskIrq vec)

/-- Settles O33: the vector is chosen by the interrupt inputs after the padding byte and the pushes of PC. -/
theorem brkEntersThroughTheIrqVector : Obligations.BrkEntersThroughTheIrqVector := by
  refine ⟨hasForms_of_rowsOf (by decide +kernel), fun s hs => ⟨s.brk, rfl, ?_⟩⟩
  have hpush : Ran s s.fetch.pushPc 3 := (Ran.fetch s).trans (RanWith.pushPc s.fetch).ran
  have hrom : ∀ nmi : Bool, 0x8000 ≤ (if nmi then 0xFFFA else 0xFFFE : Word).toNat ∧
      0x8000 ≤ ((if nmi then 0xFFFA else 0xFFFE : Word) + 1).toNat := by decide
  obtain ⟨hvec, hvec'⟩ := hrom (linesAfter s 3).nmiPending
  rw [brk_eq, hpush.lines_eq]
  generalize (if (linesAfter s 3).nmiPending then 0xFFFA else 0xFFFE : Word) = vec at *
  have hentry := Ran.enterVector (s.fetch.pushPc.withLines { linesAfter s 3 with nmiPending := false }) true vec
  obtain ⟨hcycles, htotal⟩ := hpush.counts_eq
  obtain ⟨hcycles', htotal'⟩ := hentry.counts_eq
  refine ⟨fetch_enters hs _ true hvec hvec', ?_, ?_, hcycles'.trans hcycles, htotal'.trans htotal⟩
  · rw [hentry.lines_eq, linesAfter, withLines_ticks, hpush.ticks_eq]
    rfl
  · rw [hentry.ticks_eq, withLines_ticks, hpush.ticks_eq, List.drop_drop]

/-! ## Jumps -/

/-- Settles O30: the jump through a pointer is two reads, the second within the pointer's page. -/
theorem jumpsLoadPc : Obligations.JumpsLoadPc := by
  refine ⟨hasForms_of_rowsOf (by decide +kernel),
    fun s addr => ⟨s.setPc addr, rfl, regs_setPc s addr, Stores.refl s, (RanWith.refl s).setPc addr⟩,
    fun s ptr => ⟨s.jumpIndirect ptr, _, rfl, rfl, Stores.refl s,
      (RanWith.read s ptr).trans (RanWith.read _ (addInPage ptr 1)), rfl, ?_, fun a b ha hb => ?_⟩⟩
  · rintro a b ⟨⟩
    rfl
  · rw [← peek_of_stored ha, ← peek_of_stored ((stored_read s ptr _).trans hb)]
    rfl

/-! ## JSR -/

theorem jsr_eq (s : State) (l : Byte) : s.jsr l =
    ((s.read (stackPage s.sp)).pushPc.read s.pc).setPc (cat ((s.read (stackPage s.sp)).pushPc.peek s.pc) l) := rfl

/-- A stack byte is its own only alias in the stack page (R63, R78). -/
theorem aliases_stackPage (s : State) (a b : Byte) : s.aliases (stackPage a) (stackPage b) = decide (b = a) := by
  simp [State.aliases, region_stackPage, Region.writableCell, Region.cell, BitVec.toNat_inj]

/-- What an address holds after the pushes of PC, the later push first. -/
theorem stored_pushPc {s : State} (hs : s.StorageOk) (b : Word) : s.pushPc.stored b =
    if s.aliases (stackPage (s.sp - 1)) b then some (lo s.pc)
    else if s.aliases (stackPage s.sp) b then some (hi s.pc) else s.stored b := Stores.pushPc hs b

theorem stored_pushPc_first {s : State} (hs : s.StorageOk) : s.pushPc.stored (stackPage s.sp) = some (hi s.pc) := by
  have hne : s.sp ≠ s.sp - 1 := by bv_omega
  rw [stored_pushPc hs, aliases_stackPage, aliases_stackPage, decide_eq_false hne, decide_eq_true rfl]
  rfl

theorem stored_pushPc_second {s : State} (hs : s.StorageOk) :
    s.pushPc.stored (stackPage (s.sp - 1)) = some (lo s.pc) := by
  rw [stored_pushPc hs, aliases_stackPage, decide_eq_true rfl]
  rfl

theorem stored_pushPc_other {s : State} (hs : s.StorageOk) {b : Word} (hfirst : s.aliases (stackPage s.sp) b = false)
    (hsecond : s.aliases (stackPage (s.sp - 1)) b = false) : s.pushPc.stored b = s.stored b := by
  rw [stored_pushPc hs, hfirst, hsecond]
  rfl

/-- Settles O31: the target's high byte is read from the storage that the pushes of PC leave. -/
theorem jsrPushesTheReturnAddress : Obligations.JsrPushesTheReturnAddress := by
  refine ⟨hasForms_of_rowsOf (by decide +kernel), fun s l hs => ⟨s.jsr l, s.peek (stackPage s.sp),
    (s.read (stackPage s.sp)).pushPc.peek s.pc, rfl, ?_, ?_,
    ((RanWith.read s (stackPage s.sp)).trans (RanWith.pushPc _)).trans (RanWith.read _ s.pc),
    fun _ => peek_of_stored (s := (s.read (stackPage s.sp)).pushPc), fun h => peek_of_stored ?_,
    fun h => peek_of_stored ?_, fun b hb hfirst hsecond => peek_of_stored ?_⟩⟩
  · rw [jsr_eq, regs_setPc, regs_read, pushPc_regs]
    rfl
  · exact (Stores.read s (stackPage s.sp)).trans (Stores.pushPc (s := s.read (stackPage s.sp)) hs) fun _ => rfl
  · exact (congrArg _ h).trans (stored_pushPc_first (s := s.read (stackPage s.sp)) hs)
  · exact (congrArg _ h).trans (stored_pushPc_second (s := s.read (stackPage s.sp)) hs)
  · exact (stored_pushPc_other (s := s.read (stackPage s.sp)) hs hfirst hsecond).trans hb

/-! ## RTS and RTI -/

theorem byte_add_one_one (v : Byte) : v + 1 + 1 = v + 2 := BitVec.add_assoc v 1 1

theorem byte_add_one_one_one (v : Byte) : v + 1 + 1 + 1 = v + 3 := by
  rw [BitVec.add_assoc, BitVec.add_assoc]
  rfl

/-- The discarded reads of RTS and RTI, at PC and at S (R311, R313). -/
def State.returnReads (s : State) : State := (s.read s.pc).read (stackPage s.sp)

@[simp] theorem returnReads_regs (s : State) : s.returnReads.regs = s.regs := rfl
@[simp] theorem returnReads_sp (s : State) : s.returnReads.sp = s.sp := rfl
@[simp] theorem stored_returnReads (s : State) (b : Word) : s.returnReads.stored b = s.stored b := rfl
@[simp] theorem returnReads_mem (s : State) : s.returnReads.mem = s.mem := rfl

theorem RanWith.returnReads (s : State) : RanWith s s.returnReads
    [rd s.pc (s.peek s.pc), rd (stackPage s.sp) ((s.read s.pc).peek (stackPage s.sp))] :=
  (RanWith.read s s.pc).trans (RanWith.read _ (stackPage s.sp))

/-- A pull is one read of the byte that storage holds above S (R78). -/
theorem pull_spec (s : State) : ∃ v, s.peekPull = v ∧ s.stored (stackPage (s.sp + 1)) = some v ∧
    RanWith s s.pull [rd (stackPage (s.sp + 1)) v] :=
  ⟨_, rfl, (stored_stackPage s (s.sp + 1)).trans (congrArg some (peekPull_eq s).symm), RanWith.pull s⟩

theorem exec_rts {s : State} {l h : Byte} (hl : s.returnReads.peekPull = l) (hh : s.returnReads.pull.peekPull = h) :
    exec .rts s = .next (((s.returnReads.pull.pull.setPc (cat h l)).read (cat h l)).setPc (cat h l + 1)) := by
  subst hl hh
  rfl

/-- Settles O32: RTS is two discarded reads, two pulls and a discarded read at the word pulled. -/
theorem rtsPullsTheReturnAddress : Obligations.RtsPullsTheReturnAddress := by
  refine ⟨hasForms_of_rowsOf (by decide +kernel), fun s => ?_⟩
  obtain ⟨l, hl, hlstored, hlran⟩ := pull_spec s.returnReads
  obtain ⟨h, hh, hhstored, hhran⟩ := pull_spec s.returnReads.pull
  have hran := ((((RanWith.returnReads s).trans hlran).trans hhran).trans (RanWith.read _ (cat h l))).setPc
    (cat h l + 1)
  simp only [stored_pull, stored_returnReads, State.pull_sp, returnReads_sp] at hlstored hhstored hran
  rw [← byte_add_one_one]
  refine ⟨_, l, h, _, exec_rts hl hh, hlstored, hhstored, ?_, hran.stores_nil ?_, hran, rfl⟩
  · simp only [regs_setPc, regs_read, regs_pull, State.pull_sp, returnReads_sp, returnReads_regs]
  · simp only [State.setPc_mem, State.read_mem, State.pull_mem, returnReads_mem]

/-- With only an unmasked IRQ due, the IRQ is taken (R401). -/
theorem boundary_eq_irq {s : State} (hi : s.p.i = false) (hirq : s.lines.irqLine = true)
    (hnmi : s.lines.nmiPending = false) (hreset : s.lines.resetPending = false) (hhalted : s.halted = false) :
    s.boundary = .irq := by
  simp [State.boundary, hreset, hhalted, hnmi, hirq, hi]

theorem exec_rti {s : State} {v l h : Byte} (hv : s.returnReads.peekPull = v) (hl : s.returnReads.pull.peekPull = l)
    (hh : s.returnReads.pull.pull.peekPull = h) :
    exec .rti s = .next ((s.returnReads.pull.pull.pull.setP (Flags.ofByte v)).setPc (cat h l)) := by
  subst hv hl hh
  rfl

/-- Settles O34: RTI is two discarded reads and three pulls. -/
theorem rtiRestoresStatusAndPc : Obligations.RtiRestoresStatusAndPc := by
  refine ⟨hasForms_of_rowsOf (by decide +kernel), fun s => ?_⟩
  obtain ⟨v, hv, hvstored, hvran⟩ := pull_spec s.returnReads
  obtain ⟨l, hl, hlstored, hlran⟩ := pull_spec s.returnReads.pull
  obtain ⟨h, hh, hhstored, hhran⟩ := pull_spec s.returnReads.pull.pull
  have hran := (((((RanWith.returnReads s).trans hvran).trans hlran).trans hhran).setP (Flags.ofByte v)).setPc
    (cat h l)
  simp only [stored_pull, stored_returnReads, State.pull_sp, returnReads_sp] at hvstored hlstored hhstored hran
  rw [← byte_add_one_one, ← byte_add_one_one_one]
  refine ⟨_, v, l, h, _, exec_rti hv hl hh, hvstored, hlstored, hhstored, ?_, hran.stores_nil ?_, hran, rfl,
    boundary_eq_irq⟩
  · simp only [regs_setPc, regs_setP, regs_pull, State.pull_sp, returnReads_sp, returnReads_regs, Flags.ofByte]
  · simp only [State.setPc_mem, State.setP_mem, State.pull_mem, returnReads_mem]

end Sys2Proof.Machine

/-! Proofs. The undocumented combined operations (45_illegal_combined.md). -/

namespace Sys2Proof.Machine

/-! ## One register effect after another -/

theorem OnRegs.comp {f f' : State → State} {g g' : Regs → Regs} (hf' : OnRegs f' g') (hf : OnRegs f g) :
    OnRegs (fun s => f' (f s)) fun q => g' (g q) := fun s => by
  dsimp only
  rw [hf, hf', withRegs_regs]
  rfl

/-- The first half of a combined left shift or rotate: the bit moved out becomes C (R330, R331). -/
theorem carryHigh_onRegs (m : Byte) : OnRegs (fun s => s.setP (s.p.carry (m.getLsbD 7))) (highOut m) := fun s =>
  congrArg (fun c => s.setP (s.p.carry c)) (getLsbD_seven m)

/-- The first half of a combined right shift or rotate: the bit moved out becomes C (R332, R333). -/
theorem carryLow_onRegs (m : Byte) : OnRegs (fun s => s.setP (s.p.carry (m.getLsbD 0))) (lowOut m) := fun s =>
  congrArg (fun c => s.setP (s.p.carry c)) (getLsbD_zero m)

theorem ora_onRegs (v : Byte) : OnRegs (State.ora v) fun q => setA (q.a ||| v) q := fun s =>
  loadA_onRegs (s.a ||| v) s

theorem and_onRegs (v : Byte) : OnRegs (State.and v) fun q => setA (q.a &&& v) q := fun s =>
  loadA_onRegs (s.a &&& v) s

theorem eor_onRegs (v : Byte) : OnRegs (State.eor v) fun q => setA (q.a ^^^ v) q := fun s =>
  loadA_onRegs (s.a ^^^ v) s

theorem cmp_onRegs (v : Byte) : OnRegs (State.cmp v) fun q => { q with p := compareFlags q.p q.a v } := fun s =>
  congrArg s.setP (Flags.compare_eq_compareFlags s.p s.a v)

/-! ### The combined operations -/

theorem slo_onRegs (m r : Byte) : OnRegs (State.slo m r) fun q => setA (q.a ||| r) (highOut m q) :=
  (ora_onRegs r).comp (carryHigh_onRegs m)

theorem rla_onRegs (m r : Byte) : OnRegs (State.rla m r) fun q => setA (q.a &&& r) (highOut m q) :=
  (and_onRegs r).comp (carryHigh_onRegs m)

theorem sre_onRegs (m r : Byte) : OnRegs (State.sre m r) fun q => setA (q.a ^^^ r) (lowOut m q) :=
  (eor_onRegs r).comp (carryLow_onRegs m)

/-- The carry into the addition is the one the rotate leaves (R333). -/
theorem rra_onRegs (m r : Byte) : OnRegs (State.rra m r) fun q => addEffect r (lowOut m q) :=
  (adc_onRegs r).comp (carryLow_onRegs m)

/-! ## The combined read-modify-write instructions -/

/-- As `modifyRule_of_modifyClass`, with the result written to memory in numbers. -/
theorem modifyRule_of_onModify {mn : Mnemonic} {result value : Bool → Byte → Byte}
    {effect : Byte → Byte → State → State} {g : Byte → Byte → Regs → Regs}
    (hmeaning : meaning mn = onModify result effect) (hvalue : ∀ c m, result c m = value c m)
    (hg : ∀ m r, OnRegs (effect m r) (g m r)) : ModifyRule mn value g := by
  obtain rfl : result = value := funext₂ hvalue
  exact modifyRule_of_modifyClass (fun m => congrFun hmeaning (.mem m)) hg

/-- Settles O35: each is a read-modify-write instruction that puts `R` into the second operation. -/
theorem combinedModifyOperations : Obligations.CombinedModifyOperations :=
  ⟨hasForms_of_rowsOf (by decide +kernel), modifyRule_of_onModify rfl shiftLeft_eq_aslValue slo_onRegs,
    hasForms_of_rowsOf (by decide +kernel), modifyRule_of_onModify rfl rotateLeft_eq_rolValue rla_onRegs,
    hasForms_of_rowsOf (by decide +kernel), modifyRule_of_onModify rfl shiftRight_eq_lsrValue sre_onRegs,
    hasForms_of_rowsOf (by decide +kernel), modifyRule_of_onModify rfl rotateRight_eq_rorValue rra_onRegs,
    hasForms_of_rowsOf (by decide +kernel), modifyRule_of_onModify rfl (fun _ _ => rfl) fun _ => cmp_onRegs,
    hasForms_of_rowsOf (by decide +kernel), modifyRule_of_onModify rfl (fun _ _ => rfl) fun _ => sbc_onRegs⟩

end Sys2Proof.Machine

/-! Proofs. The undocumented immediate operations, the unstable stores and the jams (46_illegal_other.md). -/

namespace Sys2Proof.Machine

/-! ## The unstable stores -/

/-- An unstable store reads no register but X and Y, and leaves all as they are (R367). -/
theorem unstableStore_withRegs {s : State} {q : Regs} (hx : q.x = s.x) (hy : q.y = s.y) (m : MemOperand)
    (value : Byte) : unstableStore m value (s.withRegs q) = (unstableStore m value s).withRegs q := by
  obtain ⟨a, x, y, sp, pc, p, halted⟩ := q
  obtain rfl : x = s.x := hx
  obtain rfl : y = s.y := hy
  cases m <;> rfl

/-- In an indexed mode `crossed` says that the index changes the page (R142). -/
theorem unstableAddr_of_indexed {m : MemOperand} {s : State} (hm : (resolve m s).indexed = true) (v : Byte) :
    unstableAddr m v s =
      if hi (resolve m s).ea ≠ hi (resolve m s).base then cat v (lo (resolve m s).ea) else (resolve m s).ea := by
  simp only [unstableAddr, Resolved.crossed, hm, Bool.true_and, pagesDiffer, decide_eq_true_eq]

/-- An unstable store in an indexed mode stores one byte; its accesses are the resolver's, the discarded read of
`U` and that write (R367). -/
theorem unstableStore_spec {s : State} (hs : s.StorageOk) {m : MemOperand} (hm : (resolve m s).indexed = true)
    {value v : Byte} {addr : Word} (hv : unstableValue m value s = v) (haddr : unstableAddr m v s = addr) :
    Stores s (unstableStore m value s) [(addr, v)] ∧
    ∃ l, RanWith s (unstableStore m value s)
        (l ++ [rd (resolve m s).u ((resolveState m s).peek (resolve m s).u), wr addr v]) ∧
      shape l = (pointerReads m s).map readAt := by
  subst hv haddr
  obtain ⟨l, hl, hshape⟩ := RanWith.resolveState m s
  have hmem : Memory.wf (tailDummy m s).mem = true := by rw [tailDummy_mem]; exact hs.1
  refine ⟨(Stores.tailDummy m s).trans (Stores.write hmem _ _) (tailDummy_region m s), l, ?_, hshape⟩
  rw [unstableStore, tailDummy, if_pos hm, List.append_cons]
  exact (hl.trans (RanWith.read _ (resolve m s).u)).trans (RanWith.write _ _ _)

/-- Forms of the indexed modes alone, as those of the unstable stores are (R138, R139, R368 to R371). -/
abbrev IndexedForms (forms : List (Byte × Format × Nat × Bool)) : Prop :=
  ∀ f ∈ forms, f.2.1 = .absoluteX ∨ f.2.1 = .absoluteY ∨ f.2.1 = .indirectIndexedY

theorem indexed_of_forms {mn : Mnemonic} {forms : List (Byte × Format × Nat × Bool)} (hforms : HasForms mn forms)
    (hindexed : IndexedForms forms) {i : Instr} (hi : i.mnemonic = mn) {m : MemOperand} (ho : i.operand = .mem m)
    (s : State) : (resolve m s).indexed = true := by
  have hf := hindexed _ (hforms.1 i hi)
  rw [Instr.format, ho] at hf
  exact (resolve_indexed_iff m s).mpr hf

/-- An unstable store whose effect on the registers before it leaves the index registers (R367, R371). -/
theorem unstableRule_of_onUnstable {mn : Mnemonic} {forms : List (Byte × Format × Nat × Bool)}
    {value : Regs → Byte} {before : State → State} {after : Regs → Regs} (hrows : HasRows mn .write forms)
    (hindexed : IndexedForms forms) (hmeaning : meaning mn = onUnstable (fun s => value s.regs) before)
    (hbefore : OnRegs before after) (hx : ∀ q, (after q).x = q.x) (hy : ∀ q, (after q).y = q.y) :
    UnstableRule mn forms value after := by
  obtain ⟨hrows, hclass⟩ := hrows
  have hforms := hasForms_of_rowsOf hrows
  refine ⟨hforms, fun i s hi hs => ?_⟩
  obtain ⟨m, ho⟩ := operand_of_write (accessClass_of_rowsOf hclass hi)
  have hm := indexed_of_forms hforms hindexed hi ho s
  have he : exec i s = .next ((unstableStore m (value s.regs) s).withRegs (after s.regs)) := by
    rw [exec_eq_meaning, hi, hmeaning, ho, onUnstable, hbefore, unstableStore_withRegs (hx _) (hy _)]
  obtain ⟨hstores, l, hran, hshape⟩ := unstableStore_spec hs hm (value := value s.regs) rfl rfl
  refine ⟨m, _, _, _, l, ho, he, rfl, rfl, unstableAddr_of_indexed hm _, hstores.withRegs _, hran.withRegs _,
    hshape, ?_⟩
  rw [← (hran.withRegs _).length_of_exec he, List.length_append]
  rfl

/-- Settles O38: only TAS does something to the registers, and S is no index register. -/
theorem unstableStores : Obligations.UnstableStores :=
  ⟨unstableRule_of_onUnstable (by decide +kernel) (by decide) rfl id_onRegs (fun _ => rfl) fun _ => rfl,
    unstableRule_of_onUnstable (by decide +kernel) (by decide) rfl id_onRegs (fun _ => rfl) fun _ => rfl,
    unstableRule_of_onUnstable (by decide +kernel) (by decide) rfl id_onRegs (fun _ => rfl) fun _ => rfl,
    unstableRule_of_onUnstable (by decide +kernel) (by decide) rfl (fun _ => rfl) (fun _ => rfl) fun _ => rfl⟩

/-! ## The combined immediate operations -/

theorem byte_sub_eq_ofNat (a b : Byte) : a - b = BitVec.ofNat 8 (a.toNat + 256 - b.toNat) := by
  rw [BitVec.sub_def, Nat.add_comm, ← Nat.add_sub_assoc (Nat.le_of_lt b.isLt)]

theorem anc_onRegs (m : Byte) : OnRegs (State.anc m) fun q =>
    let t := setA (q.a &&& m) q
    { t with p := { t.p with c := t.p.n } } := fun s => by
  rw [State.anc, Flags.nz_eq_nzFlags, getLsbD_seven]
  rfl

theorem alr_onRegs (m : Byte) : OnRegs (State.alr m) fun q =>
    setA (lsrValue q.p.c (q.a &&& m)) (lowOut (q.a &&& m) q) := fun s => by
  rw [State.alr, Flags.nz_eq_nzFlags, getLsbD_zero, shiftRight_eq_lsrValue s.p.c]
  rfl

theorem arr_onRegs (m : Byte) : OnRegs (State.arr m) fun q =>
    let v := rorValue q.p.c (q.a &&& m)
    let t := setA v q
    { t with p := { t.p with c := v.getLsbD 6, v := v.getLsbD 6 != v.getLsbD 5 } } := fun s => by
  rw [State.arr, Flags.arr, Flags.nz_eq_nzFlags, rotateRight_eq_rorValue]
  rfl

theorem sbx_onRegs (m : Byte) : OnRegs (State.sbx m) fun q =>
    let t := q.a &&& q.x
    setX (BitVec.ofNat 8 (t.toNat + 256 - m.toNat)) { q with p := { q.p with c := decide (m.toNat ≤ t.toNat) } } :=
  fun s => by
    rw [State.sbx, Flags.nz_eq_nzFlags, byte_sub_eq_ofNat]
    rfl

/-- Settles O36: each is a read-class instruction on its immediate. -/
theorem immediateCombinedOperations : Obligations.ImmediateCombinedOperations :=
  ⟨readRule_of_onRead (by decide +kernel) rfl anc_onRegs,
    readRule_of_onRead (by decide +kernel) rfl alr_onRegs,
    readRule_of_onRead (by decide +kernel) rfl arr_onRegs,
    readRule_of_onRead (by decide +kernel) rfl sbx_onRegs⟩

/-! ## ANE and LXA -/

theorem ane_onRegs (m : Byte) : OnRegs (State.ane m) fun q =>
    setA ((q.a ||| Config.aneMagic) &&& q.x &&& m) q := fun s =>
  loadA_onRegs (aneValue Config.aneMagic s.a s.x m) s

theorem lxa_onRegs (m : Byte) : OnRegs (State.lxa m) fun q =>
    let t := (q.a ||| Config.lxaMagic) &&& m
    setA t { q with x := t } := fun s =>
  lax_onRegs (lxaValue Config.lxaMagic s.a m) s

theorem aneValue_eq_zero (magic a : Byte) {x m : Byte} (h : m = 0 ∨ x = 0) : aneValue magic a x m = 0 := by
  obtain rfl | rfl := h
  · exact BitVec.and_zero
  · exact (congrArg (· &&& m) BitVec.and_zero).trans BitVec.zero_and

theorem lxaValue_eq_zero (magic a : Byte) {m : Byte} (h : m = 0) : lxaValue magic a m = 0 := by
  subst h
  exact BitVec.and_zero

/-- With every bit of A set the constant adds none (R363, R364). -/
theorem ff_or (magic : Byte) : 0xFF ||| magic = 0xFF := BitVec.allOnes_or

theorem aneValue_of_ff (magic x m : Byte) {a : Byte} (ha : a = 0xFF) : aneValue magic a x m = x &&& m := by
  rw [aneValue, ha, ff_or]
  exact congrArg (· &&& m) BitVec.allOnes_and

theorem lxaValue_of_ff (magic m : Byte) {a : Byte} (ha : a = 0xFF) : lxaValue magic a m = m := by
  rw [lxaValue, ha, ff_or]
  exact BitVec.allOnes_and

/-- Settles O37: both are read-class instructions on their immediate, and in the exact cases the constant is masked
out or absorbed. -/
theorem unstableImmediates : Obligations.UnstableImmediates :=
  ⟨readRule_of_onRead (by decide +kernel) rfl ane_onRegs,
    readRule_of_onRead (by decide +kernel) rfl lxa_onRegs, fun m s => ⟨State.ane m s, State.lxa m s, rfl, rfl,
    aneValue_eq_zero _ _, aneValue_of_ff _ s.x m,
    fun hm => ⟨lxaValue_eq_zero _ s.a hm, lxaValue_eq_zero _ s.a hm⟩,
    fun ha => ⟨lxaValue_of_ff _ m ha, lxaValue_of_ff _ m ha⟩⟩⟩

/-! ## Jams -/

/-- A pending reset comes before everything else, the halted state too (R401). -/
theorem boundary_eq_reset {s : State} (hreset : s.lines.resetPending = true) : s.boundary = .reset :=
  if_pos hreset

/-- While halted, only a reset is taken (R414). -/
theorem boundary_eq_halted {s : State} (hhalted : s.halted = true) (hreset : s.lines.resetPending = false) :
    s.boundary = .halted := by
  rw [State.boundary, if_neg (by rw [hreset]; exact Bool.false_ne_true), if_pos hhalted]

/-- Settles O39: a jam is an implied instruction that sets `halted` alone. -/
theorem jamHalts : Obligations.JamHalts :=
  ⟨hasForms_of_rowsOf (by decide +kernel), impliedRule_of_impliedClass rfl fun _ => rfl,
    fun _ => boundary_eq_halted, fun _ => boundary_eq_reset⟩

end Sys2Proof.Machine

/-! Proofs. What a step does at each boundary, the entry sequences of NMI and IRQ, and what the environment's calls
change (60_exceptions.md). -/

namespace Sys2Proof.Machine

/-! ## What a step does at each boundary -/

/-- What a step does with the event its boundary took (R401). -/
def perform (s : State) : Boundary → Host.Outcome State Fault Refusal
  | .reset => .next s.beginStep.resetSequence.finishStep
  | .halted => .next s.beginStep.haltedStep
  | .nmi => .next (s.beginStep.interruptSequence .nmi).finishStep
  | .irq => .next (s.beginStep.interruptSequence .irq).finishStep
  | .instruction => finishOutcome (exec s.beginStep.peekInstr s.beginStep.fetchInstr)

theorem step_eq_perform (s : State) : step s = perform s s.boundary := by
  unfold step
  dsimp only
  rw [show s.beginStep.boundary = s.boundary from rfl]
  cases s.boundary <;> rfl

theorem step_of_boundary {s : State} {b : Boundary} (h : s.boundary = b) : step s = perform s b :=
  h ▸ step_eq_perform s

/-- With a latched edge and nothing before it, the NMI is taken (R401). -/
theorem boundary_eq_nmi {s : State} (hreset : s.lines.resetPending = false) (hhalted : s.halted = false)
    (hnmi : s.lines.nmiPending = true) : s.boundary = .nmi := by
  simp [State.boundary, hreset, hhalted, hnmi]

/-- With nothing else due, an instruction is (R401). -/
theorem boundary_eq_instruction {s : State} (hreset : s.lines.resetPending = false) (hhalted : s.halted = false)
    (hnmi : s.lines.nmiPending = false) (hirq : s.lines.irqLine = false ∨ s.p.i = true) :
    s.boundary = .instruction := by
  have hmasked : (s.lines.irqLine && !s.p.i) = false := by
    obtain h | h := hirq
    · rw [h, Bool.false_and]
    · rw [h, Bool.not_true, Bool.and_false]
  simp [State.boundary, hreset, hhalted, hnmi, hmasked]

/-- Settles O42: the boundary's tests are in this order, and the step performs what they choose. -/
theorem boundaryTakesEventsInOrder : Obligations.BoundaryTakesEventsInOrder := fun _ =>
  ⟨fun hreset => step_of_boundary (boundary_eq_reset hreset),
    fun hreset hhalted => step_of_boundary (boundary_eq_halted hhalted hreset),
    fun hreset hhalted hnmi => step_of_boundary (boundary_eq_nmi hreset hhalted hnmi),
    fun hreset hhalted hnmi hirq hi => step_of_boundary (boundary_eq_irq hi hirq hnmi hreset hhalted),
    fun hreset hhalted hnmi hirq => step_of_boundary (boundary_eq_instruction hreset hhalted hnmi hirq)⟩

/-- Settles O57: the halted cycle answers a next state, and so do the accesses of every other step. -/
theorem everyStepAnswersANextState : Obligations.EveryStepAnswersANextState := by
  intro s
  by_cases hb : s.boundary = .halted
  · exact ⟨_, step_of_halted hb⟩
  · obtain ⟨t, _, ht, _⟩ := step_advances s hb
    exact ⟨_, ht⟩

/-- Settles O47: halted without a reset request, the boundary is the halted cycle, which leaves `halted`. -/
theorem haltedStepIsOneIdleCycle : Obligations.HaltedStepIsOneIdleCycle := by
  refine ⟨fun s hhalted hreset => step_of_halted (boundary_eq_halted hhalted hreset),
    fun s t hstep hhalted hleft => ?_, fun s _ hline => ?_⟩
  · by_contra hreset
    have hidle := step_of_halted (boundary_eq_halted hhalted (Bool.eq_false_of_not_eq_true hreset))
    cases hidle.symm.trans hstep
    exact Bool.false_ne_true (hleft.symm.trans hhalted)
  · simp [State.setNmi, Lines.setNmi, hline]

/-! ## The count of a step -/

/-- A step that makes `n` accesses returns `n` and adds it to the total (R401, R464). -/
theorem Advances.finishStep_counts {s t : State} {n : Nat} (h : Advances s.beginStep t n) :
    t.finishStep.cycles = n ∧ t.finishStep.cyclesTotal = s.cyclesTotal + n ∧ t.finishStep.trace.length = n := by
  obtain ⟨l, hlen, htrace, -, -, htotal, -⟩ := h.accesses
  have hn : t.trace.length = n := by
    rw [htrace, State.beginStep_trace, List.nil_append, hlen]
  exact ⟨hn, congrArg₂ (· + ·) htotal hn, hn⟩

/-- Settles O53: the count is the number of accesses, which the simulation of every opcode against the table gives
(`exec_advances`), with one access for each fetched byte. -/
theorem instructionStepsTakeTheTablesCycles : Obligations.InstructionStepsTakeTheTablesCycles := by
  intro s t hb hstep
  have hne : s.boundary ≠ .halted := by
    rw [hb]
    decide
  obtain ⟨u, hu, hadv⟩ := step_advances_stepAccesses hne
  cases hu.symm.trans hstep
  obtain ⟨hcycles, -⟩ := hadv.finishStep_counts
  rw [hcycles, stepAccesses, hb]

/-! ## The entry sequences of NMI and IRQ -/

/-- The two discarded reads of an NMI or IRQ entry, at PC (R407). -/
def State.entryReads (s : State) : State := (s.read s.pc).read s.pc

theorem RanWith.entryReads (s : State) : ∃ d, RanWith s s.entryReads d ∧ shape d = [readAt s.pc, readAt s.pc] :=
  ⟨_, (RanWith.read s s.pc).trans (RanWith.read _ s.pc), rfl⟩

/-- The four accesses before the choice of the vector (R409). -/
theorem Ran.entryReads_pushPc (s : State) : Ran s s.entryReads.pushPc 4 :=
  ((Ran.read s s.pc).trans (Ran.read _ s.pc)).trans (RanWith.pushPc s.entryReads).ran

/-- An NMI consumes its latch, then enters through its own vector (R407). -/
theorem interruptSequence_nmi_eq (s : State) : s.interruptSequence .nmi =
    s.consumeNmi.entryReads.pushPc.enterVector false 0xFFFA := rfl

/-- An IRQ takes its vector by the interrupt inputs as they are after the pushes of PC (R407, R409). -/
theorem interruptSequence_irq_eq (s : State) : s.interruptSequence .irq =
    (s.entryReads.pushPc.withLines { s.entryReads.pushPc.lines with nmiPending := false }).enterVector false
      (if s.entryReads.pushPc.lines.nmiPending then 0xFFFA else 0xFFFE) := rfl

/-- Both vectors an entry can take lie in PRG-ROM (R79, R408). -/
theorem vector_in_rom : ∀ nmi : Bool, 0x8000 ≤ (if nmi then 0xFFFA else 0xFFFE : Word).toNat ∧
    0x8000 ≤ ((if nmi then 0xFFFA else 0xFFFE : Word) + 1).toNat := by decide

/-- The entry of an NMI or IRQ: two discarded reads come before the pushes (R407). -/
theorem entryReads_enters {s : State} (hs : s.StorageOk) (lines : Lines) {vec : Word}
    (hvec : 0x8000 ≤ vec.toNat) (hvec' : 0x8000 ≤ (vec + 1).toNat) :
    Enters s ((s.entryReads.pushPc.withLines lines).enterVector false vec) [readAt s.pc, readAt s.pc] s.pc false
      vec := by
  obtain ⟨d, hd, hshape⟩ := RanWith.entryReads s
  rw [← hshape]
  exact Enters.of_lead (enters_enterVector (s := s.entryReads) hs lines false hvec hvec') hd rfl rfl

/-- The count that ends the step is no part of an entry (R401). -/
theorem Enters.finishStep {s t : State} {first : List (AccessKind × Word)} {ret vec : Word} {brk : Bool}
    (h : Enters s t first ret brk vec) : Enters s t.finishStep first ret brk vec := h

/-- The interrupt inputs an NMI entry leaves: the latch is consumed before the calls of its seven accesses
(R403, R407). -/
theorem interruptSequence_nmi_lines (s : State) : (s.interruptSequence .nmi).lines =
    ({ s.lines with nmiPending := false } : Lines).signals (s.ticks.take 7).flatten :=
  ((Ran.entryReads_pushPc s.consumeNmi).trans (Ran.enterVector _ false 0xFFFA)).lines_eq

/-- The interrupt inputs an IRQ entry leaves: a hijack consumes the latch after four accesses (R409). -/
theorem interruptSequence_irq_lines (s : State) : (s.interruptSequence .irq).lines =
    ({ linesAfter s 4 with nmiPending := false } : Lines).signals ((s.ticks.drop 4).take 3).flatten := by
  have hpush := Ran.entryReads_pushPc s
  rw [interruptSequence_irq_eq, (Ran.enterVector _ _ _).lines_eq, linesAfter, withLines_ticks, hpush.ticks_eq,
    hpush.lines_eq]
  rfl

theorem interruptSequence_nmi_enters {s : State} (hs : s.StorageOk) :
    Enters s (s.interruptSequence .nmi) [readAt s.pc, readAt s.pc] s.pc false 0xFFFA :=
  entryReads_enters (s := s.consumeNmi) hs s.consumeNmi.entryReads.pushPc.lines (vec := 0xFFFA)
    (by decide) (by decide)

theorem interruptSequence_irq_enters {s : State} (hs : s.StorageOk) :
    Enters s (s.interruptSequence .irq) [readAt s.pc, readAt s.pc] s.pc false
      (if (linesAfter s 4).nmiPending then 0xFFFA else 0xFFFE) := by
  obtain ⟨hvec, hvec'⟩ := vector_in_rom (linesAfter s 4).nmiPending
  rw [interruptSequence_irq_eq, (Ran.entryReads_pushPc s).lines_eq]
  exact entryReads_enters hs _ hvec hvec'

/-- Settles O43: the entry's stores, registers and accesses, then the counts and the interrupt inputs. -/
theorem nmiAndIrqEntry : Obligations.NmiAndIrqEntry := by
  intro s hs hreset hhalted
  refine ⟨fun hnmi => ?_, fun hnmi hirq hi => ?_⟩
  · have hadv := Advances.of_interruptSequence s.beginStep .nmi
    obtain ⟨hcycles, htotal, -⟩ := hadv.finishStep_counts
    have henters := interruptSequence_nmi_enters (s := s.beginStep) hs
    exact ⟨_, step_of_boundary (boundary_eq_nmi hreset hhalted hnmi), henters.finishStep, hcycles, htotal, hadv.ticks,
      interruptSequence_nmi_lines s.beginStep⟩
  · have hadv := Advances.of_interruptSequence s.beginStep .irq
    obtain ⟨hcycles, htotal, -⟩ := hadv.finishStep_counts
    have henters := interruptSequence_irq_enters (s := s.beginStep) hs
    exact ⟨_, step_of_boundary (boundary_eq_irq hi hirq hnmi hreset hhalted), henters.finishStep, hcycles, htotal,
      hadv.ticks, interruptSequence_irq_lines s.beginStep⟩

/-! ## The environment's calls -/

/-- Settles O41: the entry's own consumption of the latch is all that happens to the inputs when no call comes. -/
theorem nmiIsTakenOncePerEdge : Obligations.NmiIsTakenOncePerEdge := by
  refine ⟨fun s hline => ?_, fun s hline => ?_, fun s => ?_, fun s hreset hhalted hnmi hticks => ?_⟩
  · simp [State.setNmi, Lines.setNmi, hline]
  · simp [State.setNmi, Lines.setNmi, ← hline]
  · simp [State.setNmi, Lines.setNmi]
  · refine ⟨_, step_of_boundary (boundary_eq_nmi hreset hhalted hnmi), ?_⟩
    rw [State.finishStep_lines, interruptSequence_nmi_lines, State.beginStep_ticks, hticks]
    rfl

/-- `irq_line` after a step is what the environment's calls of that step make it (R404, R421). -/
theorem step_irqLine {s t : State} (h : step s = .next t) :
    t.lines.irqLine = (linesAfter s t.trace.length).irqLine := by
  by_cases hb : s.boundary = .halted
  · cases (step_of_halted hb).symm.trans h
    rfl
  · obtain ⟨u, n, hu, hadv⟩ := step_advances s hb
    cases hu.symm.trans h
    obtain ⟨-, -, hlen⟩ := hadv.finishStep_counts
    rw [hlen]
    exact hadv.irqLine

/-- An IRQ entry sets I, takes three bytes of stack and seven cycles (R407). -/
theorem step_of_irq {s : State} (hb : s.boundary = .irq) :
    ∃ t, step s = .next t ∧ t.p.i = true ∧ t.sp = s.sp - 3 ∧ t.cycles = 7 := by
  have hregs := interruptSequence_regs s.beginStep .irq
  obtain ⟨hcycles, -⟩ := (Advances.of_interruptSequence s.beginStep .irq).finishStep_counts
  refine ⟨_, step_of_boundary hb, congrArg (·.p.i) hregs, (congrArg Regs.sp hregs).trans ?_, hcycles⟩
  rw [State.beginStep_sp, BitVec.sub_sub, BitVec.sub_sub]
  rfl

/-- What the step after a reset request leaves (R405, R450). -/
theorem step_assertReset (s : State) :
    ∃ t, step s.assertReset = .next t ∧ t.sp = 0xFD ∧ t.p.i = true ∧ t.halted = false ∧ t.cycles = 7 ∧
      (s.ticks = [] → t.lines = { s.lines with nmiPending := false, resetPending := false }) := by
  obtain ⟨d, l, h, -, -, hregs, -, -, hlines, -⟩ := resetSequence_spec s.assertReset.beginStep
  obtain ⟨hcycles, -⟩ := (Advances.of_resetSequence s.assertReset.beginStep).finishStep_counts
  refine ⟨_, step_of_boundary (boundary_eq_reset rfl), congrArg Regs.sp hregs, congrArg (·.p.i) hregs,
    congrArg Regs.halted hregs, hcycles, fun hticks => hlines.trans ?_⟩
  rw [linesAfter, State.beginStep_ticks, State.assertReset_ticks, hticks]
  rfl

/-- Settles O58: a call is an update of one input; the steps that follow are an IRQ entry and the reset sequence. -/
theorem interruptCallsSetOneInput : Obligations.InterruptCallsSetOneInput := by
  refine ⟨fun _ _ => rfl, fun _ => rfl, fun _ => rfl, fun s call => ?_, fun _ => rfl, fun _ _ _ => rfl,
    fun s hreset hhalted hnmi hi => step_of_irq (boundary_eq_irq (s := s.setIrq true) hi rfl hnmi hreset hhalted),
    step_assertReset, fun _ _ => step_irqLine⟩
  cases call <;> rfl

/-! ## The fetch of an instruction from storage -/

/-- Storage, given by what each address holds, has these bytes at consecutive addresses from one on. -/
def HoldsFrom (stored : Word → Option Byte) : Word → List Byte → Prop
  | _, [] => True
  | addr, b :: bs => stored addr = some b ∧ HoldsFrom stored (addr + 1) bs

/-- The reads of these bytes at consecutive addresses from one on. -/
def readsFrom : Word → List Byte → List BusAccess
  | _, [] => []
  | addr, b :: bs => rd addr b :: readsFrom (addr + 1) bs

theorem HoldsFrom.take {stored : Word → Option Byte} (n : Nat) : ∀ {addr : Word} {bs : List Byte},
    HoldsFrom stored addr bs → HoldsFrom stored addr (bs.take n) := by
  induction n with
  | zero => exact fun _ => trivial
  | succ n ih =>
    intro addr bs h
    cases bs with
    | nil => trivial
    | cons b bs =>
      obtain ⟨hb, hbs⟩ := h
      exact ⟨hb, ih hbs⟩

theorem readsFrom_take (n : Nat) : ∀ (addr : Word) (bs : List Byte),
    readsFrom addr (bs.take n) = (readsFrom addr bs).take n := by
  induction n with
  | zero => exact fun _ _ => rfl
  | succ n ih =>
    intro addr bs
    cases bs with
    | nil => rfl
    | cons b bs => exact congrArg (rd addr b :: ·) (ih (addr + 1) bs)

/-- Fetching bytes that storage holds at PC reads them in order and moves PC past them (R25, R83). -/
theorem fetchBytes_of_holdsFrom {bs : List Byte} {s : State} (h : HoldsFrom s.stored s.pc bs) :
    State.peekBytes bs.length s = bs ∧ RanWith s (State.fetchBytes bs.length s) (readsFrom s.pc bs) ∧
    (State.fetchBytes bs.length s).regs = { s.regs with pc := s.pc + BitVec.ofNat 16 bs.length } := by
  induction bs generalizing s with
  | nil =>
    refine ⟨rfl, RanWith.refl s, ?_⟩
    rw [List.length_nil, BitVec.add_zero]
    rfl
  | cons b bs ih =>
    obtain ⟨hb, hbs⟩ := h
    obtain ⟨hpeek, hran, hregs⟩ := ih (s := s.fetch) hbs
    have hread : s.peekFetch = b := peek_of_stored hb
    have hfetch := RanWith.fetch s
    rw [hread] at hfetch
    refine ⟨congrArg₂ List.cons hread hpeek, hfetch.trans hran, hregs.trans ?_⟩
    rw [regs_fetch, State.fetch_pc, BitVec.add_assoc, List.length_cons, Nat.add_comm, BitVec.ofNat_add]
    rfl

/-- The instruction that storage holds at PC is fetched, by a read of each of its bytes (R25, R100). -/
theorem fetchInstr_of_holdsFrom {s : State} {op : Byte} {bs : List Byte} (h : HoldsFrom s.stored s.pc (op :: bs))
    (hlen : bs.length = operandCount op) :
    s.peekInstr = decodeOp op (bs.getD 0 0) (bs.getD 1 0) ∧
    RanWith s s.fetchInstr (readsFrom s.pc (op :: bs)) ∧
    s.fetchInstr.regs = { s.regs with pc := s.pc + BitVec.ofNat 16 (op :: bs).length } := by
  obtain ⟨hpeek, hran, hregs⟩ := fetchBytes_of_holdsFrom h
  obtain ⟨hop, hbs⟩ := List.cons.inj hpeek
  rw [State.fetchInstr, State.peekInstr, hop, ← hlen, hbs]
  exact ⟨rfl, hran, hregs⟩

/-- Settles O6: the decoder takes from the three bytes those that the fetch reads. -/
theorem stepRunsTheDecodedInstruction : Obligations.StepRunsTheDecodedInstruction := by
  intro s b0 b1 b2 i rest hreset hhalted hnmi hirq h0 h1 h2 hdecode
  have hpc : s.pc + 1 + 1 = s.pc + 2 := BitVec.add_assoc s.pc 1 1
  have hholds : HoldsFrom s.stored s.pc [b0, b1, b2] := ⟨h0, h1, hpc ▸ h2, trivial⟩
  obtain ⟨op, bs, hlen, hbytes, rfl⟩ := decode_ok_inv hdecode
  have hencode := encode_decodeOp hlen
  have htake : op :: bs = [b0, b1, b2].take (op :: bs).length := by
    rw [hbytes, ← List.cons_append, List.take_left]
  obtain ⟨hinstr, hran, hregs⟩ := fetchInstr_of_holdsFrom (s := s.beginStep) (htake ▸ hholds.take _) hlen
  have hstep := step_of_boundary (boundary_eq_instruction hreset hhalted hnmi hirq)
  rw [perform, hinstr] at hstep
  rw [htake, readsFrom_take] at hran
  rw [hencode, ← hpc]
  exact ⟨s.beginStep.fetchInstr, hstep, hregs, hran.stores_nil (fetchInstr_mem s.beginStep), hran⟩

/-! ## What the interrupt inputs and the environment's calls leave alone -/

/-- A state with other interrupt inputs and other calls to come. -/
def State.withSignals (s : State) (lines : Lines) (ticks : List (List Signal)) : State :=
  { s with lines := lines, ticks := ticks }

/-- `t` differs from `s` in the interrupt inputs and the calls to come at most. -/
def SameButSignals (s t : State) : Prop := t = s.withSignals t.lines t.ticks

/-- A function of states that neither the interrupt inputs nor the calls to come alter (R410, R421). -/
def Unaltered (f : State → State) : Prop :=
  ∀ (s : State) (lines : Lines) (ticks : List (List Signal)), SameButSignals (f s) (f (s.withSignals lines ticks))

theorem Unaltered.map {f : State → State} (hf : Unaltered f) {s t : State} (h : SameButSignals s t) :
    SameButSignals (f s) (f t) := by
  have hmap := hf s t.lines t.ticks
  rwa [← h] at hmap

theorem Unaltered.comp {f g : State → State} (hg : Unaltered g) (hf : Unaltered f) :
    Unaltered fun s => g (f s) := fun s lines ticks => hg.map (hf s lines ticks)

theorem Unaltered.read (addr : Word) : Unaltered fun s => s.read addr := fun _ _ _ => rfl

theorem Unaltered.write (addr : Word) (v : Byte) : Unaltered fun s => s.write addr v := fun _ _ _ => rfl

theorem SameButSignals.ite {s t s' t' : State} (c : Prop) [Decidable c] (h : SameButSignals s t)
    (h' : SameButSignals s' t') : SameButSignals (if c then s else s') (if c then t else t') := by
  split
  · exact h
  · exact h'

theorem SameButSignals.peek {s t : State} (h : SameButSignals s t) (addr : Word) : t.peek addr = s.peek addr := by
  rw [h]
  rfl

theorem resolve_withSignals (m : MemOperand) (s : State) (lines : Lines) (ticks : List (List Signal)) :
    resolve m (s.withSignals lines ticks) = resolve m s := by
  cases m <;> rfl

theorem resolveState_unaltered (m : MemOperand) : Unaltered (resolveState m) := by
  cases m <;> exact fun _ _ _ => rfl

theorem tailDummy_unaltered (m : MemOperand) : Unaltered (tailDummy m) := by
  intro s lines ticks
  unfold tailDummy
  rw [resolve_withSignals]
  have h := resolveState_unaltered m s lines ticks
  exact .ite _ ((Unaltered.read _).map h) h

theorem readTail_unaltered (m : MemOperand) : Unaltered (readTail m) := by
  intro s lines ticks
  unfold readTail
  rw [resolve_withSignals]
  have h := resolveState_unaltered m s lines ticks
  exact .ite _ ((Unaltered.read _).map h) h

theorem readClass_unaltered {effect : Byte → State → State} (he : ∀ v, Unaltered (effect v)) (m : MemOperand) :
    Unaltered (readClass m effect) := by
  intro s lines ticks
  have h := readTail_unaltered m s lines ticks
  unfold readClass loadValue loadState
  rw [resolve_withSignals, h.peek]
  exact (he _).map ((Unaltered.read _).map h)

theorem writeClass_unaltered (m : MemOperand) (v : Byte) : Unaltered (writeClass m v) := by
  intro s lines ticks
  unfold writeClass
  rw [resolve_withSignals]
  exact (Unaltered.write _ v).map (tailDummy_unaltered m s lines ticks)

theorem unstableStore_unaltered (m : MemOperand) (v : Byte) : Unaltered (unstableStore m v) := by
  intro s lines ticks
  unfold unstableStore unstableValue unstableAddr
  rw [resolve_withSignals]
  exact (Unaltered.write _ _).map (tailDummy_unaltered m s lines ticks)

theorem modifyClass_unaltered {effect : Byte → Byte → State → State} (he : ∀ v r, Unaltered (effect v r))
    (result : Bool → Byte → Byte) (m : MemOperand) : Unaltered (modifyClass m result effect) := by
  intro s lines ticks
  have h := tailDummy_unaltered m s lines ticks
  unfold modifyClass modifyState modifyValue
  rw [resolve_withSignals, h.peek]
  exact (he _ _).map ((Unaltered.write _ _).map ((Unaltered.write _ _).map ((Unaltered.read _).map h)))

theorem impliedClass_unaltered {effect : State → State} (he : Unaltered effect) :
    Unaltered (impliedClass effect) := fun s _ _ => he.map (Unaltered.read s.pc s _ _)

theorem branch_unaltered (cond : Bool) (off : Byte) : Unaltered fun s => s.branch cond off := by
  intro s lines ticks
  have hread : SameButSignals (s.read s.pc) ((s.withSignals lines ticks).read s.pc) := rfl
  have hsetPc : Unaltered fun t => t.setPc (s.pc + sext off) := fun _ _ _ => rfl
  exact .ite (cond = true) (hsetPc.map (.ite _ ((Unaltered.read _).map hread) hread)) rfl

/-- What follows a pull is given the byte pulled. -/
theorem Unaltered.pull {f : Byte → State → State} (hf : ∀ v, Unaltered (f v)) :
    Unaltered fun s => f s.peekPull s.pull := by
  intro s lines ticks
  have hpull : SameButSignals s.pull (s.withSignals lines ticks).pull := rfl
  exact (hf s.peekPull).map hpull

theorem returnReads_unaltered : Unaltered State.returnReads := fun _ _ _ => rfl

theorem returnFromInterrupt_unaltered : Unaltered State.returnFromInterrupt := by
  have hsetPc : ∀ l h : Byte, Unaltered fun s => s.setPc (cat h l) := fun _ _ _ _ _ => rfl
  have hsetP : ∀ v : Byte, Unaltered fun s => s.setP (Flags.ofByte v) := fun _ _ _ _ => rfl
  exact (Unaltered.pull fun v => (Unaltered.pull fun l => .pull (hsetPc l)).comp (hsetP v)).comp
    returnReads_unaltered

theorem rts_unaltered : Unaltered State.rts := by
  have hjump : ∀ l h : Byte, Unaltered fun s => ((s.setPc (cat h l)).read (cat h l)).setPc (cat h l + 1) :=
    fun _ _ _ _ _ => rfl
  have hread : Unaltered fun s => s.read (stackPage s.sp) := fun _ _ _ => rfl
  exact (Unaltered.pull fun l => .pull (hjump l)).comp hread

theorem onRead_unaltered {effect : Byte → State → State} (he : ∀ v, Unaltered (effect v)) (o : Operand) :
    Unaltered (onRead effect o) := by
  cases o with
  | immediate imm => exact he imm
  | mem m => exact readClass_unaltered he m
  | implied | accumulator | target | targetLow | pointer | offset => exact fun _ _ _ => rfl

theorem onWrite_unaltered {value : State → Byte}
    (hv : ∀ s lines ticks, value (s.withSignals lines ticks) = value s) (o : Operand) :
    Unaltered (onWrite value o) := by
  cases o with
  | mem m =>
    intro s lines ticks
    dsimp only [onWrite]
    rw [hv]
    exact writeClass_unaltered m (value s) s lines ticks
  | implied | accumulator | immediate | target | targetLow | pointer | offset => exact fun _ _ _ => rfl

theorem onUnstable_unaltered {value : State → Byte} {before : State → State}
    (hv : ∀ s lines ticks, value (s.withSignals lines ticks) = value s) (hb : Unaltered before) (o : Operand) :
    Unaltered (onUnstable value before o) := by
  cases o with
  | mem m =>
    intro s lines ticks
    dsimp only [onUnstable]
    rw [hv]
    exact (unstableStore_unaltered m (value s)).map (hb s lines ticks)
  | implied | accumulator | immediate | target | targetLow | pointer | offset => exact fun _ _ _ => rfl

theorem onModify_unaltered {effect : Byte → Byte → State → State} (he : ∀ v r, Unaltered (effect v r))
    (result : Bool → Byte → Byte) (o : Operand) : Unaltered (onModify result effect o) := by
  cases o with
  | mem m => exact modifyClass_unaltered he result m
  | implied | accumulator | immediate | target | targetLow | pointer | offset => exact fun _ _ _ => rfl

theorem onShift_unaltered {flags : Byte → Byte → State → State} (hf : ∀ v r, Unaltered (flags v r))
    (ha : ∀ r, Unaltered (State.accumulate r flags)) (result : Bool → Byte → Byte) (o : Operand) :
    Unaltered (onShift result flags o) := by
  intro s lines ticks
  cases o with
  | accumulator => exact (ha _).map (Unaltered.read s.pc s lines ticks)
  | implied | immediate | mem | target | targetLow | pointer | offset =>
    dsimp only [onShift]
    exact onModify_unaltered hf result _ s lines ticks

theorem onOffset_unaltered (cond : Flags → Bool) (o : Operand) : Unaltered (onOffset cond o) := by
  cases o with
  | offset off => exact fun s => branch_unaltered (cond s.p) off s
  | implied | accumulator | immediate | mem | target | targetLow | pointer => exact fun _ _ _ => rfl

theorem onNop_unaltered (o : Operand) : Unaltered (onNop o) := by
  intro s lines ticks
  cases o with
  | implied => rfl
  | accumulator | immediate | mem | target | targetLow | pointer | offset =>
    dsimp only [onNop]
    exact onRead_unaltered (effect := State.discard) (fun _ _ _ _ => rfl) _ s lines ticks

/-- No mnemonic but BRK, whose vector a latched edge chooses (R409), looks at the interrupt inputs. -/
theorem meaning_unaltered {mn : Mnemonic} (h : mn ≠ .BRK) (o : Operand) : Unaltered (meaning mn o) := by
  cases mn with
  | LDA | LDX | LDY | LAX | LAS | ADC | SBC | USBC | AND | ORA | EOR | CMP | CPX | CPY | BIT | ANC | ALR | ARR
  | ANE | LXA | SBX => exact onRead_unaltered (fun _ _ _ _ => by rfl) o
  | STA | STX | STY | SAX => exact onWrite_unaltered (fun _ _ _ => by rfl) o
  | SHA | SHX | SHY | TAS => exact onUnstable_unaltered (fun _ _ _ => by rfl) (fun _ _ _ => by rfl) o
  | INC | DEC | SLO | RLA | SRE | RRA | DCP | ISC => exact onModify_unaltered (fun _ _ _ _ _ => by rfl) _ o
  | ASL | LSR | ROL | ROR =>
    dsimp only [meaning]
    exact onShift_unaltered (fun _ _ _ _ _ => by rfl) (fun _ _ _ _ => by rfl) _ o
  | NOP => exact onNop_unaltered o
  | BPL | BMI | BVC | BVS | BCC | BCS | BNE | BEQ =>
    dsimp only [meaning]
    exact onOffset_unaltered _ o
  | JMP | JSR => cases o <;> exact fun _ _ _ => rfl
  | BRK => exact absurd rfl h
  | RTI => exact returnFromInterrupt_unaltered
  | RTS => exact impliedClass_unaltered rts_unaltered
  | PHA | PHP | PLA | PLP | TAX | TAY | TXA | TYA | TSX | TXS | INX | INY | DEX | DEY | CLC | SEC | CLI | SEI | CLD
  | SED | CLV | JAM =>
    dsimp only [meaning]
    exact impliedClass_unaltered fun _ _ _ => by rfl

/-- Settles O56: the answer of an instruction is its mnemonic's meaning. -/
theorem signalsNeverAlterAnInstruction : Obligations.SignalsNeverAlterAnInstruction := by
  intro i s t lines ticks hmn hexec
  have hsame := meaning_unaltered hmn i.operand s lines ticks
  rw [← eq_meaning_of_exec hexec] at hsame
  exact ⟨_, _, (exec_eq_meaning i _).trans (congrArg _ hsame)⟩

end Sys2Proof.Machine

/-! Proofs. The bounds of a step's count, the reset step and the power-on state (70_reset_and_hazards.md). -/

namespace Sys2Proof.Machine

/-! ## The bounds of a step's count -/

/-- A read-modify-write with an indirect mode (R465). -/
abbrev IndirectModify (r : OpcodeRow) : Prop :=
  r.accessClass = .readModifyWrite ∧ (r.format = .indexedIndirectX ∨ r.format = .indirectIndexedY)

/-- The most cycles a row takes beyond its base count: a branch is the one relative form (R142). -/
def rowMaxPenalty (r : OpcodeRow) : Nat :=
  if r.format = .relative then 2 else if r.pageCrossPenalty then 1 else 0

/-- An indirect read-modify-write has 8 base cycles and is undocumented; every other row stays below 8 cycles with its
penalties (R106, R465). -/
theorem opcodeTable_cycles : ∀ r ∈ opcodeTable, if IndirectModify r then r.baseCycles = 8 ∧ r.documented = false
    else r.baseCycles + rowMaxPenalty r ≤ 7 := by
  decide +kernel

theorem row_mem_opcodeTable (i : Instr) : i.row ∈ opcodeTable :=
  List.fst_mem_of_mem_zipIdx (List.mem_of_mem_filter (row_mem_rowsOf i))

theorem row_format (i : Instr) : i.row.format = i.format := by
  obtain ⟨-, hformat, -⟩ := row_describes i
  exact hformat

theorem maxPenalty_le_row (i : Instr) : maxPenalty i ≤ rowMaxPenalty i.row := by
  rw [maxPenalty, rowMaxPenalty, row_format, Instr.format]
  cases i.operand with
  | mem m => cases m <;> exact Nat.le_refl _
  | offset => exact Nat.le_refl 2
  | implied | accumulator | immediate | target | targetLow | pointer => exact Nat.zero_le _

theorem row_of_indirectModify {i : Instr} (h : IndirectModify i.row) :
    i.row.baseCycles = 8 ∧ i.row.documented = false := by
  have hrow := opcodeTable_cycles i.row (row_mem_opcodeTable i)
  rwa [if_pos h] at hrow

theorem cycles_le_seven {i : Instr} (h : ¬ IndirectModify i.row) (s : State) :
    i.row.baseCycles + penalty i s ≤ 7 := by
  have hrow := opcodeTable_cycles i.row (row_mem_opcodeTable i)
  rw [if_neg h] at hrow
  exact (Nat.add_le_add_left ((penalty_le i s).trans (maxPenalty_le_row i)) _).trans hrow

/-- No penalty comes on top of the 8 base cycles of an indirect read-modify-write, and nothing else reaches 8 (R465). -/
theorem cycles_eq_eight_iff (i : Instr) (s : State) :
    i.row.baseCycles + penalty i s = 8 ↔ IndirectModify i.row := by
  refine ⟨fun height => ?_, fun h => ?_⟩
  · by_contra h
    have hle := cycles_le_seven h s
    omega
  · obtain ⟨hbase, -⟩ := row_of_indirectModify h
    obtain ⟨-, hmax⟩ := cycleBounds i
    have hpenalty := penalty_le i s
    omega

theorem documented_cycles_le_seven {i : Instr} (h : i.row.documented = true) (s : State) :
    i.row.baseCycles + penalty i s ≤ 7 := by
  refine cycles_le_seven (fun hmodify => ?_) s
  obtain ⟨-, hundocumented⟩ := row_of_indirectModify hmodify
  exact Bool.false_ne_true (hundocumented.symm.trans h)

/-- A step that is no halted cycle returns the number of its accesses and adds it to the total (R401, R464). -/
theorem step_counts {s t : State} (hb : s.boundary ≠ .halted) (h : step s = .next t) :
    t.cycles = stepAccesses s ∧ t.cyclesTotal = s.cyclesTotal + stepAccesses s ∧ t.trace.length = stepAccesses s := by
  obtain ⟨u, hu, hadv⟩ := step_advances_stepAccesses hb
  cases hu.symm.trans h
  exact hadv.finishStep_counts

/-- An interrupt entry makes seven accesses (R407). -/
theorem stepAccesses_of_entry {s : State} (h : s.boundary = .nmi ∨ s.boundary = .irq) : stepAccesses s = 7 := by
  obtain h | h := h <;> rw [stepAccesses, h]

theorem stepAccesses_of_instruction {s : State} (h : s.boundary = .instruction) : stepAccesses s =
    s.beginStep.peekInstr.row.baseCycles + penalty s.beginStep.peekInstr s.beginStep.fetchInstr := by
  rw [stepAccesses, h]

/-- Settles O52: a halted cycle counts 1, and every other step as many as its accesses, which the opcode table bounds. -/
theorem stepsTakeOneToEightCycles : Obligations.StepsTakeOneToEightCycles := by
  intro s t hstep
  by_cases hb : s.boundary = .halted
  · cases (step_of_halted hb).symm.trans hstep
    simp [hb, State.haltedStep]
  · obtain ⟨hcycles, htotal, hlen⟩ := step_counts hb hstep
    obtain ⟨hone, height⟩ := stepAccesses_bounds hb
    rw [hcycles]
    refine ⟨hone, height, htotal, fun _ => hlen, fun h => absurd h hb, stepAccesses_of_entry, fun h => ?_⟩
    rw [stepAccesses_of_instruction h, ← row_format]
    exact ⟨cycles_eq_eight_iff _ _, fun hdoc => documented_cycles_le_seven hdoc _⟩

/-! ## The reset step -/

/-- Settles O44: with a request pending the step is the reset sequence on a cleared access list. -/
theorem resetStep : Obligations.ResetStep := by
  intro s hreset
  obtain ⟨d, l, h, hl, hh, hregs, htrace, hshape, hlines, hticks, hlatch, hreads, hcount⟩ :=
    resetSequence_spec s.beginStep
  obtain ⟨hcycles, htotal, -⟩ := (Advances.of_resetSequence s.beginStep).finishStep_counts
  obtain ⟨-, hrom, hram, -⟩ := Keeps.resetSequence s.beginStep
  exact ⟨_, d, l, h, step_of_boundary (boundary_eq_reset hreset), hl, hh, hregs, stored_resetSequence s.beginStep,
    htrace, hshape, hlines, hticks, hlatch, hcycles, htotal, (State.finishStep_hookReads _).trans hreads,
    (State.finishStep_hookCount _).trans hcount, hrom, hram⟩

/-! ## The power-on state -/

/-- Settles O46: the blank cartridge is valid, and the power-on sequence evaluates on it. -/
theorem resetStateIsTheBlankPowerOn : Obligations.ResetStateIsTheBlankPowerOn :=
  (construct_of_valid (by simp [ValidCartridge]) _ _ _).trans (congrArg _ (by decide +kernel))

end Sys2Proof.Machine
